-- ==== Sys2Proof/Word.lean ====
section
/-! DEFINITION. The words that cross the serial links and the converter (R48, R183, R202). -/

namespace Sys2Proof

/-- A byte on LRX, LTX, ARX or ATX (R183, R88). -/
abbrev Byte := BitVec 8

/-- A two-byte field, little-endian on the line (R202). -/
abbrev Half := BitVec 16

/-- A four-byte field, little-endian on the line (R202). -/
abbrev Word := BitVec 32

/-- A conversion result code of the 12-bit converter (R48). -/
abbrev Code := BitVec 12

end Sys2Proof
end

