-- ==== Sys2Proof/Syntax.lean ====
section
/-! DEFINITION. The commands of the part: one constructor of `Instr` per row of spec/opcode_table.json, the segment
vocabulary of chapter 1, and the requests that the line port's command slots hold (R189, R194). -/

namespace Sys2Proof

/-- Gate kinds of field 1 (R3). -/
inductive GateKind where
  | always | day | night | window | level
  deriving DecidableEq, Repr, Inhabited

/-- Termination kinds of field 4 (R4). -/
inductive TermKind where
  | frames | duration | clock | lightBelow | lightAbove | levelBelow | forever
  deriving DecidableEq, Repr, Inhabited

/-- Next kinds of field 6 (R5): NEXT, JUMP, END. -/
inductive NextKind where
  | next | jump | finish
  deriving DecidableEq, Repr, Inhabited

/-- Exposure modes of field 9 (R74). -/
inductive ExposureMode where
  | ramp | fixed | holdLast
  deriving DecidableEq, Repr, Inhabited

/-- Rounding modes of field 18 (R67). -/
inductive Rounding where
  | down | nearest
  deriving DecidableEq, Repr, Inhabited

/-- A segment record as the eighteen fields arrive in PUT_SEGMENT, each at its width in the layout of R203. -/
structure SegmentRecord where
  gateKind : Byte
  gateArg1 : Half
  gateArg2 : Half
  termKind : Byte
  termArg : Word
  nextKind : Byte
  jump : Byte
  interval : Word
  expMode : Byte
  fixedE : Half
  biasStart : Half
  biasEnd : Half
  smoothing : Byte
  slew : Byte
  dMin : Half
  dMax : Half
  gMax : Byte
  rounding : Byte
  deriving DecidableEq, Repr, Inhabited

/-- A segment as a slot stores it: the eighteen fields of R6 and R7 after the checks of R9 and the clamping of R10.
The termination argument keeps its 32 bits, since R4 reads it as signed or unsigned by the kind. -/
structure Segment where
  gate : GateKind
  gateArg1 : Int
  gateArg2 : Int
  term : TermKind
  termArg : Word
  next : NextKind
  jump : Nat
  interval : Nat
  mode : ExposureMode
  fixedE : Int
  biasStart : Int
  biasEnd : Int
  smoothing : Nat
  slew : Nat
  dMin : Int
  dMax : Int
  gMax : Nat
  rounding : Rounding
  deriving DecidableEq, Repr, Inhabited

/-- A request as a command slot holds it (R189): the kinds of R194 with their fields, and the two statuses that the
line port settles itself (R193). -/
inductive Request where
  | identify
  | getStatus (part : Byte)
  | setClock (seconds : Word) (ticks : Half)
  | setParam (id : Byte) (value : Word)
  | getParam (id : Byte)
  | putSegment (slot : Byte) (record : SegmentRecord)
  | readSegment (slot bank : Byte)
  | clearStaged
  | commit
  | lockProgram
  | start (time : Option Word)
  | stop
  | hold
  | resume (mode : Byte)
  | readResumeRecord
  | setResumePoint (slot : Byte) (count : Half)
  | testShot
  | meterNow
  | setCharge (charge : Half)
  | getPower
  | readFrames
  | releaseFrames (count : Half)
  | getLogInfo
  | readAlerts
  | getLinkStats
  | setLinkSpeed (code : Byte)
  | unknownKind (kind : Byte)
  | badLength (kind : Byte)
  deriving DecidableEq, Repr

/-- The commands. The first twenty-six are the requests of R194, handed to the command slots; the others are the events
of the lines, the pins, the converter and the timebase. -/
inductive Instr where
  | identify
  | getStatus (part : Byte)
  | setClock (seconds : Word) (ticks : Half)
  | setParam (id : Byte) (value : Word)
  | getParam (id : Byte)
  | putSegment (slot : Byte) (record : SegmentRecord)
  | readSegment (slot bank : Byte)
  | clearStaged
  | commit
  | lockProgram
  | start (time : Option Word)
  | stop
  | hold
  | resume (mode : Byte)
  | readResumeRecord
  | setResumePoint (slot : Byte) (count : Half)
  | testShot
  | meterNow
  | setCharge (charge : Half)
  | getPower
  | readFrames
  | releaseFrames (count : Half)
  | getLogInfo
  | readAlerts
  | getLinkStats
  | setLinkSpeed (code : Byte)
  /-- A frame whose SOF has been taken is complete: its KIND, its payload (LEN is the payload's length) and its CRC byte. -/
  | frameReceived (kind : Byte) (payload : List Byte) (crc : Byte)
  /-- A byte arrives with its stop bit low: ticks since its start bit began, ticks LRX has been low. -/
  | stopBitError (startedAgo lowFor : Nat)
  /-- The LEN byte of a frame under assembly. -/
  | lengthError (len : Byte)
  | gapError
  | lineBreak
  | wakeEdge
  | listenExpiry
  | trialExpiry
  | replySent
  | powerOnReset
  | pinReset
  | armedStartReached
  | preparationStart
  /-- The running job ends: the codes of its conversions, in the order they were made. -/
  | converterJobEnd (codes : List Code)
  | meterLead
  | settingLead
  | focusLead
  | settingRecordSent
  /-- The five bytes that follow the reply lead byte (R206). -/
  | replyRecord (status mode shutter gain checksum : Byte)
  | accessoryByteError
  | replyWindowExpiry
  | dueTime
  | shutterHoldExpiry
  | syncClosure
  | syncWindowExpiry
  /-- READY rises (true) or falls (false). -/
  | readyChange (rise : Bool)
  | dropWatchExpiry
  | writeTimeout
  | cooldownEnd
  | recoveryTimerExpiry
  | periodicCompare
  | temperatureCompare
  | heaterPeriodStart
  | heaterOffEdge
  /-- A byte equal to SOF has arrived: ticks since its start bit began. -/
  | sofByte (startedAgo : Nat)
  | replyLeadByte
  | lrxReturnHigh
  deriving DecidableEq, Repr

end Sys2Proof
end

