-- ==== Sys2Proof/Decode.lean ====
section
/-! DEFINITION. The line frame: its bytes, its CRC, the request a valid frame holds, and the bytes of a request
(R184, R193, R194, R202, R203). Decoding is total: a KIND outside the catalog and a LEN that does not fit are requests of
their own, answered UNKNOWN_KIND and BAD_LENGTH. -/

namespace Sys2Proof

/-! ## Little-endian fields (R202) -/

/-- Two bytes as a field, the first the least significant. -/
def half (b0 b1 : Byte) : Half := b1 ++ b0

/-- Four bytes as a field, the first the least significant. -/
def word (b0 b1 b2 b3 : Byte) : Word := b3 ++ b2 ++ b1 ++ b0

/-- The bytes of a two-byte field. -/
def halfBytes (x : Half) : List Byte := [x.extractLsb' 0 8, x.extractLsb' 8 8]

/-- The bytes of a four-byte field. -/
def wordBytes (x : Word) : List Byte :=
  [x.extractLsb' 0 8, x.extractLsb' 8 8, x.extractLsb' 16 8, x.extractLsb' 24 8]

/-! ## The frame and its CRC (R184) -/

/-- The start-of-frame byte. -/
def sof : Byte := 0xC5

/-- One bit of the division by x^8 + x^2 + x + 1. -/
def crcBit (r : Byte) : Byte := if r.msb then (r <<< 1) ^^^ 0x07 else r <<< 1

/-- One byte, taken most significant bit first. -/
def crcByte (r b : Byte) : Byte :=
  crcBit (crcBit (crcBit (crcBit (crcBit (crcBit (crcBit (crcBit (r ^^^ b))))))))

/-- The CRC of a run of bytes, initial value 0, no final inversion. -/
def crc8 (bytes : List Byte) : Byte := bytes.foldl crcByte 0

/-- R184: the CRC covers LEN, KIND and the payload. -/
def frameCrc (kind : Byte) (payload : List Byte) : Byte := crc8 (BitVec.ofNat 8 payload.length :: kind :: payload)

/-- The bytes of a whole frame (R202). -/
def frameBytes (kind : Byte) (payload : List Byte) : List Byte :=
  sof :: BitVec.ofNat 8 payload.length :: kind :: payload ++ [frameCrc kind payload]

/-! ## The segment record (R203) -/

/-- The 31 bytes of a segment record. -/
def SegmentRecord.bytes (r : SegmentRecord) : List Byte :=
  r.gateKind :: halfBytes r.gateArg1 ++ halfBytes r.gateArg2 ++ r.termKind :: wordBytes r.termArg ++
  r.nextKind :: r.jump :: wordBytes r.interval ++ r.expMode :: halfBytes r.fixedE ++ halfBytes r.biasStart ++
  halfBytes r.biasEnd ++ r.smoothing :: r.slew :: halfBytes r.dMin ++ halfBytes r.dMax ++ [r.gMax, r.rounding]

/-- The segment record that 31 bytes hold. -/
def SegmentRecord.ofBytes : List Byte → Option SegmentRecord
  | [gk, a0, a1, c0, c1, tk, t0, t1, t2, t3, nk, jt, i0, i1, i2, i3, em, f0, f1, s0, s1, e0, e1, k, sl, m0, m1, x0, x1,
      gm, rm] =>
    some
      { gateKind := gk, gateArg1 := half a0 a1, gateArg2 := half c0 c1, termKind := tk, termArg := word t0 t1 t2 t3,
        nextKind := nk, jump := jt, interval := word i0 i1 i2 i3, expMode := em, fixedE := half f0 f1,
        biasStart := half s0 s1, biasEnd := half e0 e1, smoothing := k, slew := sl, dMin := half m0 m1,
        dMax := half x0 x1, gMax := gm, rounding := rm }
  | _ => none

/-! ## Requests (R194) -/

/-- PUT_SEGMENT's 32 bytes: the slot and the segment record. -/
def putSegmentOf (payload : List Byte) : Request :=
  match payload with
  | slot :: rest =>
    match SegmentRecord.ofBytes rest with
    | some r => .putSegment slot r
    | none => .badLength 0x10
  | [] => .badLength 0x10

/-- The request of a valid frame. R193: a KIND not in the catalog is UNKNOWN_KIND; a LEN other than a request length
the catalog gives the kind is BAD_LENGTH. -/
def decodeRequest (kind : Byte) (payload : List Byte) : Request :=
  if kind = 0x01 then (match payload with | [] => .identify | _ => .badLength kind)
  else if kind = 0x02 then (match payload with | [part] => .getStatus part | _ => .badLength kind)
  else if kind = 0x03 then
    (match payload with | [a, b, c, d, e, f] => .setClock (word a b c d) (half e f) | _ => .badLength kind)
  else if kind = 0x05 then
    (match payload with | [id, a, b, c, d] => .setParam id (word a b c d) | _ => .badLength kind)
  else if kind = 0x06 then (match payload with | [id] => .getParam id | _ => .badLength kind)
  else if kind = 0x10 then putSegmentOf payload
  else if kind = 0x11 then (match payload with | [slot, bank] => .readSegment slot bank | _ => .badLength kind)
  else if kind = 0x12 then (match payload with | [] => .clearStaged | _ => .badLength kind)
  else if kind = 0x13 then (match payload with | [] => .commit | _ => .badLength kind)
  else if kind = 0x14 then (match payload with | [] => .lockProgram | _ => .badLength kind)
  else if kind = 0x20 then
    (match payload with | [] => .start none | [a, b, c, d] => .start (some (word a b c d)) | _ => .badLength kind)
  else if kind = 0x21 then (match payload with | [] => .stop | _ => .badLength kind)
  else if kind = 0x22 then (match payload with | [] => .hold | _ => .badLength kind)
  else if kind = 0x23 then (match payload with | [mode] => .resume mode | _ => .badLength kind)
  else if kind = 0x24 then (match payload with | [] => .readResumeRecord | _ => .badLength kind)
  else if kind = 0x25 then
    (match payload with | [slot, a, b] => .setResumePoint slot (half a b) | _ => .badLength kind)
  else if kind = 0x26 then (match payload with | [] => .testShot | _ => .badLength kind)
  else if kind = 0x30 then (match payload with | [] => .meterNow | _ => .badLength kind)
  else if kind = 0x40 then (match payload with | [a, b] => .setCharge (half a b) | _ => .badLength kind)
  else if kind = 0x41 then (match payload with | [] => .getPower | _ => .badLength kind)
  else if kind = 0x50 then (match payload with | [] => .readFrames | _ => .badLength kind)
  else if kind = 0x51 then (match payload with | [a, b] => .releaseFrames (half a b) | _ => .badLength kind)
  else if kind = 0x52 then (match payload with | [] => .getLogInfo | _ => .badLength kind)
  else if kind = 0x60 then (match payload with | [] => .readAlerts | _ => .badLength kind)
  else if kind = 0x62 then (match payload with | [] => .getLinkStats | _ => .badLength kind)
  else if kind = 0x63 then (match payload with | [code] => .setLinkSpeed code | _ => .badLength kind)
  else .unknownKind kind

/-- The KIND byte of a request (R194). -/
def Request.kind : Request → Byte
  | .identify => 0x01
  | .getStatus _ => 0x02
  | .setClock _ _ => 0x03
  | .setParam _ _ => 0x05
  | .getParam _ => 0x06
  | .putSegment _ _ => 0x10
  | .readSegment _ _ => 0x11
  | .clearStaged => 0x12
  | .commit => 0x13
  | .lockProgram => 0x14
  | .start _ => 0x20
  | .stop => 0x21
  | .hold => 0x22
  | .resume _ => 0x23
  | .readResumeRecord => 0x24
  | .setResumePoint _ _ => 0x25
  | .testShot => 0x26
  | .meterNow => 0x30
  | .setCharge _ => 0x40
  | .getPower => 0x41
  | .readFrames => 0x50
  | .releaseFrames _ => 0x51
  | .getLogInfo => 0x52
  | .readAlerts => 0x60
  | .getLinkStats => 0x62
  | .setLinkSpeed _ => 0x63
  | .unknownKind kind => kind
  | .badLength kind => kind

/-- The payload bytes of a request of the catalog; none for the two that stand for a frame the line port answers itself. -/
def Request.payload : Request → Option (List Byte)
  | .getStatus part => some [part]
  | .setClock seconds ticks => some (wordBytes seconds ++ halfBytes ticks)
  | .setParam id value => some (id :: wordBytes value)
  | .getParam id => some [id]
  | .putSegment slot record => some (slot :: record.bytes)
  | .readSegment slot bank => some [slot, bank]
  | .start (some time) => some (wordBytes time)
  | .resume mode => some [mode]
  | .setResumePoint slot count => some (slot :: halfBytes count)
  | .setCharge charge => some (halfBytes charge)
  | .releaseFrames count => some (halfBytes count)
  | .setLinkSpeed code => some [code]
  | .unknownKind _ => none
  | .badLength _ => none
  | .identify | .clearStaged | .commit | .lockProgram | .start none | .stop | .hold | .readResumeRecord
  | .testShot | .meterNow | .getPower | .readFrames | .getLogInfo | .readAlerts | .getLinkStats => some []

/-! ## The opcode table -/

/-- No row of spec/opcode_table.json gives any bits (no "fixed", no "fields"), so no word spells a command. -/
def decodeTableWord (_nbits _w : Nat) : Option Instr := none

end Sys2Proof
end

