-- ==== Sys2Proof/Config.lean ====
section
/-! DEFINITION. What the manual leaves open, as constants with no body: nothing can be proved about their values.
They are applied to a counter or a run time of the state where a fresh value is wanted each time. -/

namespace Sys2Proof

/-- DESIGN CHOICE (entry 6). Which of several compares that have been reached the timebase serves first. R22: compares of
different blocks that fall due together are independent of one another. Applied to `State.choices`. -/
opaque Config.compareChoice : Nat → Nat

/-- DESIGN CHOICE (entry 7). The 48-bit run counter one tick after 2^48 − 1: R22 gives the width and no wrap. -/
opaque Config.runCounterAfterTop : BitVec 48

/-- DESIGN CHOICE (entry 8). Whether the SYNC contact, closed, has opened again at a run time. No row of the table says
when the contact opens (R103). -/
opaque Config.syncReopened : Nat → Bool

/-- DESIGN CHOICE (entry 42). Which of several requests that reached an idle converter in one event is taken first. R49: they
are taken in either order. Applied to `State.choices`. -/
opaque Config.requestChoice : Nat → Nat

/-- DESIGN CHOICE (entry 43). The seconds count of a wall time that lies so many ticks before wall time 0: R23 states no
borrow. -/
opaque Config.secondsBeforeZero : Nat → BitVec 32

/-- DESIGN CHOICE (entry 9). Whether a byte of the frame under assembly has come on LRX at a run time. The bytes between the
SOF byte and the CRC byte are no rows of the table. -/
opaque Config.byteArrived : Nat → Bool

/-- DESIGN CHOICE (entry 11). Whether LRX, not awaited high, has returned high at a run time. The table has a row for its
return after a stop-bit error alone. -/
opaque Config.lrxReturned : Nat → Bool

/-- DESIGN CHOICE (entry 11). Whether LRX has fallen since the tick before. The table has a row for the falling edge that wakes
the line alone. -/
opaque Config.lrxFell : Nat → Bool

/-- DESIGN CHOICE (entry 16). What a read of an empty slot gives. R33: every slot that a walk can reach is defined, so no
run reaches such a read. -/
opaque Config.emptySlot : Segment

end Sys2Proof
end

