-- ==== Sys2Proof/Machine/State.lean ====
section
/-! DEFINITION. The state of the part: one structure per block of 00_scope.md section 4.1, the parameters of R196, the
queue of waiting commands, and the value of each after power-on reset (R21, R25, R47, R66, R82, R101, R123, R144, R167,
R182, R201). Plain data throughout. -/

namespace Sys2Proof.Machine

/-! ## Timebase and program store -/

/-- R22, R23. -/
structure Timebase where
  runCounter : Nat
  seconds : Nat
  ticks : Nat
  valid : Bool
  deriving DecidableEq, Repr

/-- The physical bank names (R1). -/
inductive BankName where
  | a | b
  deriving DecidableEq, Repr

/-- Twenty-four slots, each empty or holding one segment (R1). -/
abbrev Bank := Vector (Option Segment) 24

/-- R1. The staged bank is the one that is not active. -/
structure ProgramStore where
  bankA : Bank
  bankB : Bank
  active : BankName
  commitPending : Bool
  lock : Bool
  deriving DecidableEq, Repr

/-- The reasons of the program check (R13, coded in R193). -/
inductive CheckReason where
  | slot0Empty | nextUndefined | jumpUndefined | intervalShort
  deriving DecidableEq, Repr

/-! ## Sequencer -/

/-- R26. -/
inductive SeqState where
  | idle | armed | running | holding | hold | ended
  deriving DecidableEq, Repr

/-- R124. -/
inductive HoldCause where
  | host | power | camera | loop
  deriving DecidableEq, Repr

/-- R126: the state a hold was entered from. -/
inductive HeldFrom where
  | running | armed
  deriving DecidableEq, Repr

/-- Capture phases (R105). -/
inductive Phase where
  | off | idleOn | waking | preparing | setting | waitDue | exposing | writing | cooldown
  deriving DecidableEq, Repr

/-- A frame's mode (R84), and the mode of the camera settings (R87). -/
inductive CamMode where
  | bulb | timed
  deriving DecidableEq, Repr

/-- The entry record of the current segment, with the counts that belong to it (R36). W0 and the span Δ are none while
pending. -/
structure Entry where
  runTime : Nat
  w0 : Option Nat
  span : Option Nat
  exposureCount : Nat
  debounce : Nat
  deriving DecidableEq, Repr

/-- The current slot and its entry record (R36). -/
structure Current where
  slot : Nat
  entry : Entry
  deriving DecidableEq, Repr

/-- R42: the due times lie at anchor + index × (interval × factor), `index` being that of the next frame. -/
structure Grid where
  anchor : Nat
  index : Nat
  interval : Nat
  factor : Nat
  deriving DecidableEq, Repr

/-- The trapped exposure record (R131). -/
structure TrapExposure where
  mode : CamMode
  value : Int
  gain : Int
  deriving DecidableEq, Repr

/-- What the sequencer records at hold entry, and the resume record of HOLD (R126, R130). The grid of the record is the
frozen grid of `Sequencer`, which nothing moves while the run is parked. `times` is absent when the resume point is
fresh; W0 and Δ inside it are none while pending. `stretch` is the stretch factor at the cause: that of the frozen grid, or
the one in force when the run has no grid. -/
structure HoldData where
  cause : HoldCause
  hostRequested : Bool
  heldFrom : HeldFrom
  latch : Option HoldCause
  trapPhase : Option Phase
  trapFrame : Option Nat
  trapExposure : Option TrapExposure
  elapsed : Nat
  resumeSlot : Option Nat
  causeSlot : Option Nat
  fresh : Bool
  exposureCount : Nat
  debounce : Nat
  times : Option (Nat × Option Nat × Option Nat)
  f : Int
  ePrev : Option Int
  entryRunTime : Nat
  entrySeconds : Nat
  entryTicks : Nat
  entryInvalid : Bool
  stretch : Nat
  deriving DecidableEq, Repr

/-- R26 to R47, R124 to R144. `prepRegistered`: the preparation start of the grid's next frame is registered (R43).
`stretchPending`: a stretch change arrived during the frame in flight (R46). -/
structure Sequencer where
  state : SeqState
  stopPending : Bool
  ending : Bool
  runNumber : Nat
  frameCounter : Nat
  walkCount : Nat
  current : Option Current
  grid : Option Grid
  lastDue : Option Nat
  prepRegistered : Bool
  stretchPending : Bool
  awaitingSeed : Bool
  armedStart : Option Nat
  hold : Option HoldData
  deriving DecidableEq, Repr

/-! ## Meter -/

/-- Requester classes in their order of priority (R48). -/
inductive MeterClass where
  | frame | battery | temperature | solar | host
  deriving DecidableEq, Repr

/-- Who receives a job's result (R49). -/
inductive Owner where
  | frame | test | seed | power | host
  deriving DecidableEq, Repr

/-- What a queue slot remembers of its request: the owner and rounding mode of the latest request merged (R49). -/
structure JobRequest where
  owner : Owner
  rounding : Rounding
  deriving DecidableEq, Repr

/-- A queue slot (R49). A running job keeps its start time and the sample count and calibration it read then (R50). -/
inductive QueueSlot where
  | empty
  | waiting (job : JobRequest)
  | running (job : JobRequest) (start sampleCount : Nat) (calibration : Int)
  deriving DecidableEq, Repr

/-- R49, R59. -/
structure Meter where
  frame : QueueSlot
  battery : QueueSlot
  temperature : QueueSlot
  solar : QueueSlot
  host : QueueSlot
  lLast : Option Int
  deriving DecidableEq, Repr

/-- A frame's metered value with its marks (R55): `dark` for a fresh average that carried the mark, `late` for METER_LATE. -/
structure Metered where
  value : Int
  dark : Bool
  late : Bool
  deriving DecidableEq, Repr

/-! ## Ramp engine and camera controller -/

/-- The private state of a test shot's computation (R81). -/
structure PrivateRamp where
  f : Option Int
  ePrev : Option Int
  deriving DecidableEq, Repr

/-- R68, R81. Flag sets are coded by R205. -/
structure Ramp where
  seeded : Bool
  f : Int
  ePrev : Option Int
  sticky : Half
  test : Option PrivateRamp
  deriving DecidableEq, Repr

/-- What a finished exchange, or its absence, adds to the exposure record (R99): the value field, the applied gain and
the residual. -/
structure Applied where
  value : Int
  gain : Int
  residual : Int
  deriving DecidableEq, Repr

/-- The exposure record (R80, R83 to R86, R99). `ticks` is the SHUT hold of a BULB frame. `applied` is none until the
record is finished. -/
structure Exposure where
  f : Int
  bias : Int
  eRaw : Int
  eS : Int
  eT : Int
  dLo : Int
  dCap : Int
  gMaxEff : Int
  avail : Nat
  rounding : Rounding
  d : Int
  g : Int
  mode : CamMode
  ticks : Nat
  sReq : Int
  gReq : Int
  applied : Option Applied
  deriving DecidableEq, Repr

/-- The four leads a frame reads at its handing (R106); `meter` is the effective meter lead. -/
structure Leads where
  wake : Nat
  meter : Nat
  setting : Nat
  focus : Nat
  deriving DecidableEq, Repr

/-- A run frame, or the test shot (R104). -/
inductive FrameKind where
  | run | test
  deriving DecidableEq, Repr

/-- The frame in hand (R104, R107). The registered moments are none once taken or withdrawn. -/
structure Frame where
  kind : FrameKind
  number : Nat
  due : Nat
  slot : Nat
  leads : Leads
  iEff : Nat
  factor : Nat
  syncSeen : Bool
  hasWindow : Bool
  meteringOpen : Bool
  metered : Option Metered
  exposure : Option Exposure
  flags : Half
  meterAt : Option Nat
  settingAt : Option Nat
  focusAt : Option Nat
  dueAt : Option Nat
  deriving DecidableEq, Repr

/-- Last-known camera settings when not UNKNOWN (R87). -/
structure CamSettings where
  mode : CamMode
  shutter : Int
  gain : Int
  deriving DecidableEq, Repr

/-- R88. -/
inductive ExchangeState where
  | idle | sending | awaiting
  deriving DecidableEq, Repr

/-- The stages of WRITING (R112). -/
inductive WriteStage where
  | none
  | dropWatch (expiry : Nat)
  | inProgress
  | complete
  deriving DecidableEq, Repr

/-- The setting record as transmitted (R89, R206). -/
structure SettingRecord where
  mode : CamMode
  shutter : Int
  gain : Int
  deriving DecidableEq, Repr

/-- Frame outcomes (R37, R169). -/
inductive Outcome where
  | taken | unconfirmed | missed | aborted | gap
  deriving DecidableEq, Repr

/-- The state of the test-shot record (R122). -/
inductive TestState where
  | none | inFlight | done
  deriving DecidableEq, Repr

/-- The test-shot record (R122). The fields of the exposure are none for MISSED. -/
structure TestRecord where
  state : TestState
  outcome : Option Outcome
  due : Nat
  metered : Option Metered
  eT : Option Int
  mode : Option CamMode
  applied : Option Applied
  flags : Half
  syncSeen : Bool
  deriving DecidableEq, Repr

/-- R87, R88, R102 to R104, R111, R112, R122. The output fields say whether the line is active. -/
structure Camera where
  phase : Phase
  frame : Option Frame
  drain : Bool
  cooldownEnd : Option Nat
  faultCount : Nat
  settings : Option CamSettings
  exchange : ExchangeState
  assembling : Bool
  setting : Option SettingRecord
  replyWindowAt : Option Nat
  shutterAt : Option Nat
  syncWindowAt : Option Nat
  stage : WriteStage
  writeTimeoutAt : Option Nat
  shut : Bool
  focus : Bool
  power : Bool
  ready : Bool
  syncClosed : Bool
  testRecord : TestRecord
  deriving DecidableEq, Repr

/-! ## Power monitor -/

/-- R145. -/
inductive Voltage where
  | normal | low | critical
  deriving DecidableEq, Repr

/-- R161. -/
inductive CoreState where
  | run | doze
  deriving DecidableEq, Repr

/-- R145, R146, R162, R164. `recovery` is the start time of the critical-recovery timer, none when STOPPED (R142). -/
structure Power where
  voltage : Voltage
  belowCritical : Bool
  reEvaluate : Bool
  battery : Option Nat
  solar : Option Nat
  temperature : Option Int
  account : Nat
  remainder : Nat
  lastAccrual : Nat
  draw : Nat
  chargeLevel : Nat
  budgetLevel : Nat
  core : CoreState
  eligible : Bool
  duty : Nat
  pendingDuty : Nat
  heat : Bool
  periodicAt : Nat
  temperatureAt : Option Nat
  heatPeriodAt : Option Nat
  heatOffAt : Option Nat
  recovery : Option Nat
  deriving DecidableEq, Repr

/-! ## Frame log -/

/-- The cause field of a log record (R169). -/
inductive RecordCause where
  | none | overrun | cameraWake | hold | stop
  | gap (cause : HoldCause)
  deriving DecidableEq, Repr

/-- The fourteen fields of a log record (R169). -/
structure LogRecord where
  outcome : Outcome
  run : Nat
  frame : Nat
  segment : Nat
  flags : Half
  cause : RecordCause
  dueSeconds : Nat
  dueTicks : Nat
  lAvg : Option Int
  eT : Option Int
  mode : Option CamMode
  value : Int
  gain : Option Int
  residual : Option Int
  level : Nat
  deriving DecidableEq, Repr

/-- R168. `records` are the held records, oldest first: the content of the held positions that follow the read index. -/
structure FrameLog where
  records : List LogRecord
  readIndex : Nat
  written : Nat
  released : Nat
  overwritten : Nat
  deriving DecidableEq, Repr

/-! ## Parameters -/

/-- The parameter ids of R196. -/
inductive ParamId where
  | sampleCount | calibration | k | overhead | bulbThreshold | linkPresent
  | wakeLead | meterLead | settingLead | focusLead | syncWindow | writeTimeout | keepOnThreshold | faultLimit
  | autoResume
  | capacity | runCurrent | dozeCurrent | cameraCurrent | heaterCurrent | frameCharge
  | vLow | vCrit | hysteresis | stretch0 | stretch1 | stretch2 | stretch3
  | heaterMinLevel | tOn | slope | dutyMax
  | logSize
  | alertMask
  deriving DecidableEq, Repr

/-- The stored parameters (R196) but the alert mask, which is line port state (R201). -/
structure Params where
  sampleCount : Nat
  calibration : Int
  k : Int
  overhead : Nat
  bulbThreshold : Int
  linkPresent : Nat
  wakeLead : Nat
  meterLead : Nat
  settingLead : Nat
  focusLead : Nat
  syncWindow : Nat
  writeTimeout : Nat
  keepOnThreshold : Nat
  faultLimit : Nat
  autoResume : Nat
  capacity : Nat
  runCurrent : Nat
  dozeCurrent : Nat
  cameraCurrent : Nat
  heaterCurrent : Nat
  frameCharge : Nat
  vLow : Nat
  vCrit : Nat
  hysteresis : Nat
  stretch0 : Nat
  stretch1 : Nat
  stretch2 : Nat
  stretch3 : Nat
  heaterMinLevel : Nat
  tOn : Int
  slope : Nat
  dutyMax : Nat
  logSize : Nat
  deriving DecidableEq, Repr

/-! ## Replies -/

/-- The ten status codes (R193). -/
inductive Status where
  | ok | clamped | unknownKind | badLength | badField | badState | locked | invalidProgram | pending | busy
  deriving DecidableEq, Repr

/-- The line states (R183). -/
inductive LineState where
  | dormant | listening | speedTrial
  deriving DecidableEq, Repr

/-- The speed codes of R191 in order: 9600, 19,200, 57,600 and 115,200 baud. -/
inductive Speed where
  | b9600 | b19200 | b57600 | b115200
  deriving DecidableEq, Repr

/-- The SEQUENCER part of GET_STATUS (R32, R130, R195). -/
structure SequencerStatus where
  state : SeqState
  stopPending : Bool
  runNumber : Nat
  frameCounter : Nat
  slot : Option Nat
  exposureCount : Option Nat
  debounce : Option Nat
  walkCount : Nat
  nextDue : Option Nat
  armedStart : Option Nat
  timebase : Timebase
  holdCause : Option HoldCause
  latch : Option HoldCause
  ending : Bool
  deriving DecidableEq, Repr

/-- The METER_RAMP part of GET_STATUS (R65, R68). -/
structure MeterRampStatus where
  lLast : Option Int
  converter : Option MeterClass
  waiting : List MeterClass
  seeded : Bool
  f : Int
  ePrev : Option Int
  sticky : Half
  deriving DecidableEq, Repr

/-- The CAMERA part of GET_STATUS (R104). `inHand` is the number of a run frame in hand. -/
structure CameraStatus where
  phase : Phase
  drain : Bool
  cooldownEnd : Option Nat
  shut : Bool
  focus : Bool
  power : Bool
  ready : Bool
  syncClosed : Bool
  inHand : Option Nat
  testShot : Bool
  faultCount : Nat
  settings : Option CamSettings
  exchange : ExchangeState
  deriving DecidableEq, Repr

/-- The reply of READ_RESUME_RECORD (R130, R132). -/
structure ResumeRecord where
  data : HoldData
  anchor : Option Nat
  nextIndex : Option Nat
  lastDue : Option Nat
  gridInterval : Option Nat
  deriving DecidableEq, Repr

/-- The reply of GET_POWER (R166). -/
structure PowerStatus where
  voltage : Voltage
  belowCritical : Bool
  reEvaluate : Bool
  battery : Option Nat
  vLow : Nat
  vCrit : Nat
  hysteresis : Nat
  solar : Option Nat
  temperature : Option Int
  account : Nat
  remainder : Nat
  lastAccrual : Nat
  draw : Nat
  capacity : Nat
  perMille : Nat
  chargeLevel : Nat
  budgetLevel : Nat
  stretch : Nat
  keepOn : Bool
  core : CoreState
  eligible : Bool
  duty : Nat
  pendingDuty : Nat
  periodIndex : Nat
  heat : Bool
  recovery : Option Nat
  deriving DecidableEq, Repr

/-- The data that follows a reply's status code, by the rule of each kind. -/
inductive ReplyData where
  | empty
  /-- R195. -/
  | identify (part revision slots maxLen : Nat)
  /-- BAD_FIELD's field number (R193). -/
  | field (number : Nat)
  /-- A program check failure (R13). -/
  | check (slot : Nat) (reason : CheckReason)
  /-- The slot and bank of a refused frame overhead (R79). -/
  | slotBank (slot : Nat) (bank : BankName)
  /-- The previous clock (R24). -/
  | clock (seconds ticks : Nat) (valid : Bool)
  /-- R197, R198. -/
  | parameter (id : Byte) (value : Int)
  /-- R10: the physical bank and the set of clamped fields. -/
  | written (bank : BankName) (clamped : BitVec 24)
  /-- R11. -/
  | content (bank : BankName) (segment : Option Segment)
  /-- R12. -/
  | bank (bank : BankName)
  /-- R14. -/
  | commit (deferred : Bool) (bank : BankName)
  /-- R27. -/
  | run (number : Nat)
  /-- R125. -/
  | holdState (state : SeqState) (latched : Bool)
  /-- R136, re-entry. -/
  | reentered (cause : HoldCause)
  /-- R136: the GAP record's first number and count, the retry frame, the next due. -/
  | resumed (gap : Option (Nat × Nat)) (retry nextDue : Option Nat)
  /-- R132. -/
  | resumeRecord (record : ResumeRecord)
  /-- R60: average, DARK mark, N, samples on HI, calibration. -/
  | metering (average : Int) (dark : Bool) (n hi : Nat) (calibration : Int)
  /-- R157. -/
  | account (value : Nat)
  /-- R166. -/
  | power (status : PowerStatus)
  /-- R178. -/
  | frames (held overwritten : Nat) (records : List LogRecord)
  /-- R179. -/
  | released (count held overwritten : Nat)
  /-- R180. -/
  | logInfo (size held written released overwritten : Nat)
  /-- R200. -/
  | alerts (alerts sticky : Half)
  /-- R192. -/
  | linkStats (crc framing length gap overrun : Nat) (speed : Speed) (state : LineState)
  /-- R195, the four parts. -/
  | sequencer (status : SequencerStatus)
  | meterRamp (status : MeterRampStatus)
  | camera (status : CameraStatus)
  | testRecord (record : TestRecord)
  deriving DecidableEq, Repr

/-- A reply (R184, R190, R193): the KIND byte as sent (the request's KIND with bit 7 set), the status, and the data. -/
structure Reply where
  kind : Byte
  status : Status
  data : ReplyData
  deriving DecidableEq, Repr

/-! ## Line port -/

/-- R183 to R201. `oldSpeed` is the speed a trial falls back to; `switchTo` the speed armed by a SET_LINK_SPEED whose
reply has not been sent (R191); `awaitHigh` the wait after a stop-bit error (R186). -/
structure LinePort where
  state : LineState
  speed : Speed
  oldSpeed : Speed
  switchTo : Option Speed
  assembling : Bool
  gapAt : Option Nat
  awaitHigh : Bool
  breakAt : Option Nat
  wakeEdgeAt : Option Nat
  listenAt : Option Nat
  trialAt : Option Nat
  executing : Option Request
  held : Option Request
  reply : Option Reply
  crcErrors : Nat
  framingErrors : Nat
  lengthErrors : Nat
  gapErrors : Nat
  overrunErrors : Nat
  alerts : Half
  mask : Half
  atn : Bool
  deriving DecidableEq, Repr

/-! ## The whole state -/

/-- Everything the spec gives the part, the queue of waiting commands (first in, first out), and `choices`, the counter
to which the free values of Config are applied. -/
structure State where
  tb : Timebase
  prog : ProgramStore
  seq : Sequencer
  meter : Meter
  ramp : Ramp
  cam : Camera
  pow : Power
  log : FrameLog
  line : LinePort
  params : Params
  choices : Nat
  pending : List Instr
  deriving DecidableEq, Repr

/-- The part has no fault that stops it: requests are answered with a status (R193), receiver errors are counted (R186)
and camera failures are outcomes (R109, R113). No meaning faults. -/
inductive Fault where
  deriving DecidableEq, Repr

/-- Why a command would be refused by the model. -/
inductive Refusal where
  /-- Raised by an arm of `exec` whose command has no meaning in the model; safe. No arm raises it now. -/
  | notModelled (mnemonic : String)
  deriving DecidableEq, Repr

/-! ## After power-on reset -/

/-- R25. -/
def Timebase.reset : Timebase := { runCounter := 0, seconds := 0, ticks := 0, valid := false }

/-- R21. -/
def Bank.empty : Bank := Vector.replicate 24 none

/-- R21. -/
def ProgramStore.reset : ProgramStore :=
  { bankA := Bank.empty, bankB := Bank.empty, active := .a, commitPending := false, lock := false }

/-- R47, R144. -/
def Sequencer.reset : Sequencer :=
  { state := .idle, stopPending := false, ending := false, runNumber := 0, frameCounter := 0, walkCount := 0,
    current := none, grid := none, lastDue := none, prepRegistered := false, stretchPending := false,
    awaitingSeed := false, armedStart := none, hold := none }

/-- R66. -/
def Meter.reset : Meter :=
  { frame := .empty, battery := .empty, temperature := .empty, solar := .empty, host := .empty, lLast := none }

/-- R82. -/
def Ramp.reset : Ramp := { seeded := false, f := 0, ePrev := none, sticky := 0, test := none }

/-- R123: state NONE. DESIGN CHOICE (entry 32): the other fields absent or zero until a test shot has been taken. -/
def TestRecord.reset : TestRecord :=
  { state := .none, outcome := none, due := 0, metered := none, eT := none, mode := none, applied := none,
    flags := 0, syncSeen := false }

/-- R101, R102, R123. DESIGN CHOICE (entry 8): the inputs READY low and SYNC open. -/
def Camera.reset : Camera :=
  { phase := .off, frame := none, drain := false, cooldownEnd := none, faultCount := 0, settings := none,
    exchange := .idle, assembling := false, setting := none, replyWindowAt := none, shutterAt := none,
    syncWindowAt := none, stage := .none, writeTimeoutAt := none, shut := false, focus := false, power := false,
    ready := false, syncClosed := false, testRecord := TestRecord.reset }

/-- R167: the account full at the default capacity, the draw that of the RUN core alone. -/
def Power.reset : Power :=
  { voltage := .normal, belowCritical := false, reEvaluate := false, battery := none, solar := none,
    temperature := none, account := 25200000, remainder := 0, lastAccrual := 0, draw := 1800, chargeLevel := 3,
    budgetLevel := 3, core := .run, eligible := false, duty := 0, pendingDuty := 0, heat := false,
    periodicAt := 65536, temperatureAt := none, heatPeriodAt := none, heatOffAt := none, recovery := none }

/-- R182. -/
def FrameLog.reset : FrameLog := { records := [], readIndex := 0, written := 0, released := 0, overwritten := 0 }

/-- R201. DESIGN CHOICE (entry 32): the old speed, read only in a trial, is 9600. -/
def LinePort.reset : LinePort :=
  { state := .dormant, speed := .b9600, oldSpeed := .b9600, switchTo := none, assembling := false, gapAt := none,
    awaitHigh := false, breakAt := none, wakeEdgeAt := none, listenAt := none, trialAt := none, executing := none,
    held := none, reply := none, crcErrors := 0, framingErrors := 0, lengthErrors := 0, gapErrors := 0,
    overrunErrors := 0, alerts := 0, mask := 0x0FFF, atn := false }

/-- The defaults of R196. -/
def Params.defaults : Params :=
  { sampleCount := 2, calibration := 0, k := 0, overhead := 2048, bulbThreshold := -32, linkPresent := 1,
    wakeLead := 3072, meterLead := 384, settingLead := 256, focusLead := 256, syncWindow := 256,
    writeTimeout := 30720, keepOnThreshold := 30720, faultLimit := 3, autoResume := 1, capacity := 7000,
    runCurrent := 1800, dozeCurrent := 25, cameraCurrent := 420000, heaterCurrent := 600000, frameCharge := 3,
    vLow := 11600, vCrit := 11000, hysteresis := 300, stretch0 := 4, stretch1 := 2, stretch2 := 1, stretch3 := 1,
    heaterMinLevel := 2, tOn := 40, slope := 16, dutyMax := 192, logSize := 256 }

/-- The part right after power-on reset, with nothing waiting. -/
def State.reset : State :=
  { tb := Timebase.reset, prog := ProgramStore.reset, seq := Sequencer.reset, meter := Meter.reset,
    ramp := Ramp.reset, cam := Camera.reset, pow := Power.reset, log := FrameLog.reset, line := LinePort.reset,
    params := Params.defaults, choices := 0, pending := [] }

/-! ## Block updates -/

/-- `s` with its timebase changed by `f`; the other updates below do the same for the block they name. -/
def State.modTb (s : State) (f : Timebase → Timebase) : State := { s with tb := f s.tb }
def State.modProg (s : State) (f : ProgramStore → ProgramStore) : State := { s with prog := f s.prog }
def State.modSeq (s : State) (f : Sequencer → Sequencer) : State := { s with seq := f s.seq }
def State.modMeter (s : State) (f : Meter → Meter) : State := { s with meter := f s.meter }
def State.modRamp (s : State) (f : Ramp → Ramp) : State := { s with ramp := f s.ramp }
def State.modCam (s : State) (f : Camera → Camera) : State := { s with cam := f s.cam }
def State.modPow (s : State) (f : Power → Power) : State := { s with pow := f s.pow }
def State.modLog (s : State) (f : FrameLog → FrameLog) : State := { s with log := f s.log }
def State.modLine (s : State) (f : LinePort → LinePort) : State := { s with line := f s.line }
def State.modParams (s : State) (f : Params → Params) : State := { s with params := f s.params }

end Sys2Proof.Machine
end

