-- ==== Sys2Proof/Machine/Flags.lean ====
section
/-! DEFINITION. The sixteen-bit sets of R205: frame flags, sticky exposure flags, alerts; raising an alert and forming ATN
(R199). -/

namespace Sys2Proof.Machine

/-! ## Frame flags (R205, left column) -/

def flagSatHi : Half := 0x0001
def flagSatLo : Half := 0x0002
def flagSlew : Half := 0x0004
def flagDark : Half := 0x0008
def flagMeterLate : Half := 0x0010
def flagSetFail : Half := 0x0020
def flagSetLate : Half := 0x0040
def flagCompensated : Half := 0x0080
def flagWriteTimeout : Half := 0x0100
def flagStretched : Half := 0x0200
def flagClockInvalid : Half := 0x0400
def flagResidUnknown : Half := 0x0800

/-- The flags a computation adds to the sticky set (R80): SAT_HI, SAT_LO, SLEW, DARK, METER_LATE. -/
def stickyOfComputation : Half := 0x001F

/-- The flags an exchange adds to the sticky set (R98): SET_FAIL, COMPENSATED. -/
def stickyOfExchange : Half := 0x00A0

/-- A flag, when a condition holds. -/
def flagIf (c : Bool) (flag : Half) : Half := if c then flag else 0

/-! ## Alerts (R199; R205, right column) -/

/-- The twelve alerts. -/
inductive Alert where
  | holdEntered | resumed | programEnded | commitDone | cameraFault | batteryLow | batteryCritical | logNearFull
  | logOverwrite | linkError | saturation | testDone
  deriving DecidableEq, Repr

/-- The alert's bit of R205. -/
def Alert.bit : Alert → Half
  | .holdEntered => 0x0001
  | .resumed => 0x0002
  | .programEnded => 0x0004
  | .commitDone => 0x0008
  | .cameraFault => 0x0010
  | .batteryLow => 0x0020
  | .batteryCritical => 0x0040
  | .logNearFull => 0x0080
  | .logOverwrite => 0x0100
  | .linkError => 0x0200
  | .saturation => 0x0400
  | .testDone => 0x0800

/-- All twelve alert bits: the default of the mask, and the bits a mask may hold (R196, R197, R201). -/
def allAlerts : Half := 0x0FFF

/-- R199: raising adds the alert to the set; an alert already present leaves the set as it was. -/
def raiseAlert (a : Alert) (s : State) : State := s.modLine fun l => { l with alerts := l.alerts ||| a.bit }

/-- R199: ATN is asserted exactly when the alert set holds an alert that the mask enables. -/
def atnOf (l : LinePort) : Bool := l.alerts &&& l.mask != 0

/-- The line port forms ATN again (R199). -/
def formAtn (s : State) : State := s.modLine fun l => { l with atn := atnOf l }

/-- R80, R98: flags added to the ramp engine's sticky exposure flag set. -/
def addSticky (flags : Half) (s : State) : State := s.modRamp fun r => { r with sticky := r.sticky ||| flags }

end Sys2Proof.Machine
end

