-- ==== Sys2Proof/Machine/Operands.lean ====
section
/-! DEFINITION. What the fields of a request mean: the checks and the clamping of a segment record (R3, R4, R7, R9, R10), the
parameter table with its ranges (R196, R197), the codes of statuses, modes and speeds, and the byte layouts the host and
the adapter see (R202 to R206). -/

namespace Sys2Proof.Machine

/-! ## Ranges -/

/-- A value brought into lo..hi: the nearer end when outside it. -/
def clampInt (lo hi v : Int) : Int := if v < lo then lo else if hi < v then hi else v

/-! ## Codes of a segment's kind fields (R203) -/

def gateKindOf (b : Byte) : Option GateKind :=
  if b = 0 then some .always else if b = 1 then some .day else if b = 2 then some .night
  else if b = 3 then some .window else if b = 4 then some .level else none

def termKindOf (b : Byte) : Option TermKind :=
  if b = 0 then some .frames else if b = 1 then some .duration else if b = 2 then some .clock
  else if b = 3 then some .lightBelow else if b = 4 then some .lightAbove else if b = 5 then some .levelBelow
  else if b = 6 then some .forever else none

def nextKindOf (b : Byte) : Option NextKind :=
  if b = 0 then some .next else if b = 1 then some .jump else if b = 2 then some .finish else none

def exposureModeOf (b : Byte) : Option ExposureMode :=
  if b = 0 then some .ramp else if b = 1 then some .fixed else if b = 2 then some .holdLast else none

def roundingOf (b : Byte) : Option Rounding :=
  if b = 0 then some .down else if b = 1 then some .nearest else none

def gateKindCode : GateKind → Byte
  | .always => 0 | .day => 1 | .night => 2 | .window => 3 | .level => 4

def termKindCode : TermKind → Byte
  | .frames => 0 | .duration => 1 | .clock => 2 | .lightBelow => 3 | .lightAbove => 4 | .levelBelow => 5 | .forever => 6

def nextKindCode : NextKind → Byte
  | .next => 0 | .jump => 1 | .finish => 2

def exposureModeCode : ExposureMode → Byte
  | .ramp => 0 | .fixed => 1 | .holdLast => 2

def roundingCode : Rounding → Byte
  | .down => 0 | .nearest => 1

/-! ## Clamping a segment's fields (R3, R4, R7, R10) -/

/-- Field 2 by gate kind (R3); stored as received under ALWAYS (R7). -/
def clampGateArg1 (g : GateKind) (v : Int) : Int :=
  match g with
  | .always => v
  | .day | .night => clampInt (-256) 383 v
  | .window => clampInt 0 1439 v
  | .level => clampInt 0 3 v

/-- Field 3 by gate kind: used by WINDOW alone (R3, R7). -/
def clampGateArg2 (g : GateKind) (v : Int) : Int :=
  match g with
  | .window => clampInt 0 1439 v
  | .always | .day | .night | .level => v

/-- An unsigned field of 32 bits brought into lo..hi. -/
def clampUnsigned (lo hi : Nat) (v : Word) : Word :=
  if v.toNat < lo then BitVec.ofNat 32 lo else if hi < v.toNat then BitVec.ofNat 32 hi else v

/-- Field 5 by termination kind (R4): signed for the light kinds, unsigned otherwise, as received under FOREVER (R7). -/
def clampTermArg (t : TermKind) (v : Word) : Word :=
  match t with
  | .frames => clampUnsigned 1 65535 v
  | .duration => clampUnsigned 1 4000000 v
  | .clock => clampUnsigned 0 1439 v
  | .lightBelow | .lightAbove => BitVec.ofInt 32 (clampInt (-256) 383 v.toInt)
  | .levelBelow => clampUnsigned 1 3 v
  | .forever => v

/-- A natural field brought into lo..hi. -/
def clampNat (lo hi v : Nat) : Nat := if v < lo then lo else if hi < v then hi else v

/-- The record as clamped (R10), for kinds that R9 has accepted. -/
def clampSegment (r : SegmentRecord) (g : GateKind) (t : TermKind) (n : NextKind) (m : ExposureMode) (rd : Rounding) :
    Segment :=
  { gate := g
    gateArg1 := clampGateArg1 g r.gateArg1.toInt
    gateArg2 := clampGateArg2 g r.gateArg2.toInt
    term := t
    termArg := clampTermArg t r.termArg
    next := n
    jump := r.jump.toNat
    interval := clampNat 1024 88473600 r.interval.toNat
    mode := m
    fixedE := clampInt (-208) 288 r.fixedE.toInt
    biasStart := clampInt (-128) 128 r.biasStart.toInt
    biasEnd := clampInt (-128) 128 r.biasEnd.toInt
    smoothing := clampNat 0 7 r.smoothing.toNat
    slew := clampNat 1 64 r.slew.toNat
    dMin := clampInt (-208) 192 r.dMin.toInt
    dMax := clampInt (-208) 192 r.dMax.toInt
    gMax := clampNat 0 96 r.gMax.toNat
    rounding := rd }

/-- Bit n of the clamped-field set (R203), when field n was changed. -/
def fieldBit (n : Nat) (changed : Bool) : BitVec 24 := if changed then (1 : BitVec 24) <<< n else 0

/-- R10: one bit for each field that clamping changed. -/
def clampedFields (r : SegmentRecord) (g : Segment) : BitVec 24 :=
  fieldBit 2 (g.gateArg1 != r.gateArg1.toInt) ||| fieldBit 3 (g.gateArg2 != r.gateArg2.toInt) |||
  fieldBit 5 (g.termArg != r.termArg) ||| fieldBit 8 (g.interval != r.interval.toNat) |||
  fieldBit 10 (g.fixedE != r.fixedE.toInt) ||| fieldBit 11 (g.biasStart != r.biasStart.toInt) |||
  fieldBit 12 (g.biasEnd != r.biasEnd.toInt) ||| fieldBit 13 (g.smoothing != r.smoothing.toNat) |||
  fieldBit 14 (g.slew != r.slew.toNat) ||| fieldBit 15 (g.dMin != r.dMin.toInt) |||
  fieldBit 16 (g.dMax != r.dMax.toInt) ||| fieldBit 17 (g.gMax != r.gMax.toNat)

/-- R9: the refusal checks in their order, then the clamped record. The error is the number of the failing field. -/
def checkSegment (slot : Byte) (r : SegmentRecord) : Except Nat Segment :=
  if 24 ≤ slot.toNat then .error 0
  else
    match gateKindOf r.gateKind with
    | none => .error 1
    | some g =>
      match termKindOf r.termKind with
      | none => .error 4
      | some t =>
        match nextKindOf r.nextKind with
        | none => .error 6
        | some n =>
          if n = .jump ∧ 24 ≤ r.jump.toNat then .error 7
          else
            match exposureModeOf r.expMode with
            | none => .error 9
            | some m =>
              match roundingOf r.rounding with
              | none => .error 18
              | some rd =>
                let seg := clampSegment r g t n m rd
                if seg.dMax < seg.dMin then .error 15 else .ok seg

/-! ## Parameters (R196) -/

/-- The ids of R196. -/
def paramOf (id : Byte) : Option ParamId :=
  if id = 0x01 then some .sampleCount else if id = 0x02 then some .calibration else if id = 0x03 then some .k
  else if id = 0x04 then some .overhead else if id = 0x05 then some .bulbThreshold
  else if id = 0x06 then some .linkPresent else if id = 0x10 then some .wakeLead
  else if id = 0x11 then some .meterLead else if id = 0x12 then some .settingLead
  else if id = 0x13 then some .focusLead else if id = 0x14 then some .syncWindow
  else if id = 0x15 then some .writeTimeout else if id = 0x16 then some .keepOnThreshold
  else if id = 0x17 then some .faultLimit else if id = 0x20 then some .autoResume
  else if id = 0x30 then some .capacity else if id = 0x31 then some .runCurrent
  else if id = 0x32 then some .dozeCurrent else if id = 0x33 then some .cameraCurrent
  else if id = 0x34 then some .heaterCurrent else if id = 0x35 then some .frameCharge
  else if id = 0x36 then some .vLow else if id = 0x37 then some .vCrit else if id = 0x38 then some .hysteresis
  else if id = 0x39 then some .stretch0 else if id = 0x3A then some .stretch1 else if id = 0x3B then some .stretch2
  else if id = 0x3C then some .stretch3 else if id = 0x3D then some .heaterMinLevel
  else if id = 0x3E then some .tOn else if id = 0x3F then some .slope else if id = 0x40 then some .dutyMax
  else if id = 0x50 then some .logSize else if id = 0x60 then some .alertMask else none

/-- The stored value of a parameter; the alert mask stands in the line port (R196, R201). -/
def paramValue (p : Params) (mask : Half) : ParamId → Int
  | .sampleCount => p.sampleCount
  | .calibration => p.calibration
  | .k => p.k
  | .overhead => p.overhead
  | .bulbThreshold => p.bulbThreshold
  | .linkPresent => p.linkPresent
  | .wakeLead => p.wakeLead
  | .meterLead => p.meterLead
  | .settingLead => p.settingLead
  | .focusLead => p.focusLead
  | .syncWindow => p.syncWindow
  | .writeTimeout => p.writeTimeout
  | .keepOnThreshold => p.keepOnThreshold
  | .faultLimit => p.faultLimit
  | .autoResume => p.autoResume
  | .capacity => p.capacity
  | .runCurrent => p.runCurrent
  | .dozeCurrent => p.dozeCurrent
  | .cameraCurrent => p.cameraCurrent
  | .heaterCurrent => p.heaterCurrent
  | .frameCharge => p.frameCharge
  | .vLow => p.vLow
  | .vCrit => p.vCrit
  | .hysteresis => p.hysteresis
  | .stretch0 => p.stretch0
  | .stretch1 => p.stretch1
  | .stretch2 => p.stretch2
  | .stretch3 => p.stretch3
  | .heaterMinLevel => p.heaterMinLevel
  | .tOn => p.tOn
  | .slope => p.slope
  | .dutyMax => p.dutyMax
  | .logSize => p.logSize
  | .alertMask => mask.toNat

/-- R106: clamped to 64..1024, then raised to the setting lead + 64. -/
def meterLeadInRange (settingLead : Nat) (v : Int) : Int :=
  if clampInt 64 1024 v < (settingLead : Int) + 64 then (settingLead : Int) + 64 else clampInt 64 1024 v

/-- R111: 0, or 16..1024; 1..15 becomes 16. -/
def syncWindowInRange (v : Int) : Int := if v ≤ 0 then 0 else clampInt 16 1024 v

/-- R147: 5000..15,900, then lowered to V_low − 100. -/
def vCritInRange (vLow : Nat) (v : Int) : Int :=
  if (vLow : Int) - 100 < clampInt 5000 15900 v then (vLow : Int) - 100 else clampInt 5000 15900 v

/-- R181: the smallest of the four sizes not below the value, and 512 above 512. -/
def logSizeInRange (v : Int) : Int := if v ≤ 64 then 64 else if v ≤ 128 then 128 else if v ≤ 256 then 256 else 512

/-- Step 3 of R197: the value as brought into range. -/
def paramInRange (p : Params) (id : ParamId) (value : Word) : Int :=
  let v := value.toInt
  match id with
  | .sampleCount => clampInt 0 3 v
  | .calibration => clampInt (-128) 127 v
  | .k => clampInt (-512) 511 v
  | .overhead => clampInt 0 65535 v
  | .bulbThreshold => clampInt (-48) 64 v
  | .linkPresent => clampInt 0 1 v
  | .wakeLead => clampInt 1024 20480 v
  | .meterLead => meterLeadInRange p.settingLead v
  | .settingLead => clampInt 64 1024 v
  | .focusLead => clampInt 0 1024 v
  | .syncWindow => syncWindowInRange v
  | .writeTimeout => clampInt 2048 614400 v
  | .keepOnThreshold => clampInt 0 614400 v
  | .faultLimit => clampInt 1 15 v
  | .autoResume => clampInt 0 1 v
  | .capacity => clampInt 100 65000 v
  | .runCurrent => clampInt 0 65535 v
  | .dozeCurrent => clampInt 0 65535 v
  | .cameraCurrent => clampInt 0 2000000 v
  | .heaterCurrent => clampInt 0 2000000 v
  | .frameCharge => clampInt 0 1000 v
  | .vLow => clampInt 6000 16000 v
  | .vCrit => vCritInRange p.vLow v
  | .hysteresis => clampInt 50 2000 v
  | .stretch0 | .stretch1 | .stretch2 | .stretch3 => clampInt 1 8 v
  | .heaterMinLevel => clampInt 0 3 v
  | .tOn => clampInt (-800) 800 v
  | .slope => clampInt 0 255 v
  | .dutyMax => clampInt 0 255 v
  | .logSize => logSizeInRange v
  | .alertMask => ((value &&& 0x0FFF).toNat : Int)

/-- R147: a V_low that leaves V_crit above V_low − 100 lowers V_crit to it. -/
def lowersVCrit (p : Params) (id : ParamId) (v : Int) : Bool := id = .vLow && v - 100 < p.vCrit

/-- Step 3 of R197 changed a value: the one sent, V_crit with V_low (R147), or a meter lead clamped to 1024 and then raised to the
value sent (R106: either change counts). -/
def changedInRange (p : Params) (id : ParamId) (value : Word) : Bool :=
  paramInRange p id value ≠ value.toInt || lowersVCrit p id (paramInRange p id value) ||
    (id = .meterLead && clampInt 64 1024 value.toInt ≠ value.toInt)

/-- The parameters with a value stored, V_crit lowered where R147 says so; the alert mask is stored elsewhere. -/
def storeParam (p : Params) (id : ParamId) (v : Int) : Params :=
  match id with
  | .sampleCount => { p with sampleCount := v.toNat }
  | .calibration => { p with calibration := v }
  | .k => { p with k := v }
  | .overhead => { p with overhead := v.toNat }
  | .bulbThreshold => { p with bulbThreshold := v }
  | .linkPresent => { p with linkPresent := v.toNat }
  | .wakeLead => { p with wakeLead := v.toNat }
  | .meterLead => { p with meterLead := v.toNat }
  | .settingLead => { p with settingLead := v.toNat }
  | .focusLead => { p with focusLead := v.toNat }
  | .syncWindow => { p with syncWindow := v.toNat }
  | .writeTimeout => { p with writeTimeout := v.toNat }
  | .keepOnThreshold => { p with keepOnThreshold := v.toNat }
  | .faultLimit => { p with faultLimit := v.toNat }
  | .autoResume => { p with autoResume := v.toNat }
  | .capacity => { p with capacity := v.toNat }
  | .runCurrent => { p with runCurrent := v.toNat }
  | .dozeCurrent => { p with dozeCurrent := v.toNat }
  | .cameraCurrent => { p with cameraCurrent := v.toNat }
  | .heaterCurrent => { p with heaterCurrent := v.toNat }
  | .frameCharge => { p with frameCharge := v.toNat }
  | .vLow => { p with vLow := v.toNat, vCrit := if v - 100 < p.vCrit then (v - 100).toNat else p.vCrit }
  | .vCrit => { p with vCrit := v.toNat }
  | .hysteresis => { p with hysteresis := v.toNat }
  | .stretch0 => { p with stretch0 := v.toNat }
  | .stretch1 => { p with stretch1 := v.toNat }
  | .stretch2 => { p with stretch2 := v.toNat }
  | .stretch3 => { p with stretch3 := v.toNat }
  | .heaterMinLevel => { p with heaterMinLevel := v.toNat }
  | .tOn => { p with tOn := v }
  | .slope => { p with slope := v.toNat }
  | .dutyMax => { p with dutyMax := v.toNat }
  | .logSize => { p with logSize := v.toNat }
  | .alertMask => p

/-- R20, R197 step 2: the five parameters the program lock guards. -/
def lockedParam : ParamId → Bool
  | .sampleCount | .calibration | .k | .overhead | .bulbThreshold => true
  | .linkPresent | .wakeLead | .meterLead | .settingLead | .focusLead | .syncWindow | .writeTimeout
  | .keepOnThreshold | .faultLimit | .autoResume | .capacity | .runCurrent | .dozeCurrent | .cameraCurrent
  | .heaterCurrent | .frameCharge | .vLow | .vCrit | .hysteresis | .stretch0 | .stretch1 | .stretch2 | .stretch3
  | .heaterMinLevel | .tOn | .slope | .dutyMax | .logSize | .alertMask => false

/-- R154: the four draw parameters. -/
def drawParam : ParamId → Bool
  | .runCurrent | .dozeCurrent | .cameraCurrent | .heaterCurrent => true
  | .sampleCount | .calibration | .k | .overhead | .bulbThreshold | .linkPresent | .wakeLead | .meterLead
  | .settingLead | .focusLead | .syncWindow | .writeTimeout | .keepOnThreshold | .faultLimit | .autoResume
  | .capacity | .frameCharge | .vLow | .vCrit | .hysteresis | .stretch0 | .stretch1 | .stretch2 | .stretch3
  | .heaterMinLevel | .tOn | .slope | .dutyMax | .logSize | .alertMask => false

/-! ## Other codes -/

/-- R193. -/
def statusCode : Status → Byte
  | .ok => 0x00
  | .clamped => 0x01
  | .unknownKind => 0x10
  | .badLength => 0x11
  | .badField => 0x12
  | .badState => 0x13
  | .locked => 0x14
  | .invalidProgram => 0x15
  | .pending => 0x16
  | .busy => 0x17

/-- R193. -/
def checkReasonCode : CheckReason → Byte
  | .slot0Empty => 1
  | .nextUndefined => 2
  | .jumpUndefined => 3
  | .intervalShort => 4

/-- R194. -/
def bankCode : BankName → Byte
  | .a => 0
  | .b => 1

/-- R191. -/
def speedOf (code : Byte) : Option Speed :=
  if code = 0 then some .b9600 else if code = 1 then some .b19200 else if code = 2 then some .b57600
  else if code = 3 then some .b115200 else none

/-! ## Byte layouts (R203 to R206) -/

/-- A stored segment in the layout of R203. -/
def segmentBytes (g : Segment) : List Byte :=
  SegmentRecord.bytes
    { gateKind := gateKindCode g.gate, gateArg1 := BitVec.ofInt 16 g.gateArg1, gateArg2 := BitVec.ofInt 16 g.gateArg2,
      termKind := termKindCode g.term, termArg := g.termArg, nextKind := nextKindCode g.next,
      jump := BitVec.ofNat 8 g.jump, interval := BitVec.ofNat 32 g.interval, expMode := exposureModeCode g.mode,
      fixedE := BitVec.ofInt 16 g.fixedE, biasStart := BitVec.ofInt 16 g.biasStart,
      biasEnd := BitVec.ofInt 16 g.biasEnd, smoothing := BitVec.ofNat 8 g.smoothing, slew := BitVec.ofNat 8 g.slew,
      dMin := BitVec.ofInt 16 g.dMin, dMax := BitVec.ofInt 16 g.dMax, gMax := BitVec.ofNat 8 g.gMax,
      rounding := roundingCode g.rounding }

/-- R204. -/
def outcomeCode : Outcome → Byte
  | .taken => 0
  | .unconfirmed => 1
  | .missed => 2
  | .aborted => 3
  | .gap => 4

/-- R204. -/
def recordCauseCode : RecordCause → Byte
  | .none => 0
  | .overrun => 1
  | .cameraWake => 2
  | .hold => 3
  | .stop => 4
  | .gap .host => 0x10
  | .gap .power => 0x11
  | .gap .camera => 0x12
  | .gap .loop => 0x13

/-- R204: BULB 0, TIMED 1, none 0xFF. -/
def recordModeCode : Option CamMode → Byte
  | some .bulb => 0
  | some .timed => 1
  | none => 0xFF

/-- A log record in the 28 bytes of R204. -/
def logRecordBytes (r : LogRecord) : List Byte :=
  outcomeCode r.outcome :: BitVec.ofNat 8 r.run :: wordBytes (BitVec.ofNat 32 r.frame) ++
  BitVec.ofNat 8 r.segment :: halfBytes r.flags ++ recordCauseCode r.cause ::
  wordBytes (BitVec.ofNat 32 r.dueSeconds) ++ halfBytes (BitVec.ofNat 16 r.dueTicks) ++
  halfBytes (BitVec.ofInt 16 (r.lAvg.getD (-32768))) ++ halfBytes (BitVec.ofInt 16 (r.eT.getD (-32768))) ++
  recordModeCode r.mode :: wordBytes (BitVec.ofInt 32 r.value) ++
  [BitVec.ofInt 8 (r.gain.getD 0), BitVec.ofInt 8 (r.residual.getD (-128)), BitVec.ofNat 8 r.level]

/-- R206: BULB 0x01, TIMED 0x02. -/
def linkModeCode : CamMode → Byte
  | .bulb => 0x01
  | .timed => 0x02

/-- R206. -/
def linkModeOf (b : Byte) : Option CamMode :=
  if b = 0x01 then some .bulb else if b = 0x02 then some .timed else none

/-- R206: the checksum makes the sum of all bytes 0 modulo 256. -/
def checksumOf (bytes : List Byte) : Byte := -(bytes.foldl (· + ·) 0)

/-- The five bytes of the setting record on ATX (R206). -/
def settingRecordBytes (r : SettingRecord) : List Byte :=
  let body := [0xA6, linkModeCode r.mode, BitVec.ofInt 8 r.shutter, BitVec.ofInt 8 r.gain]
  body ++ [checksumOf body]

/-- R90: whether the six bytes of a reply record, its lead byte 0xA9 among them, sum to 0 modulo 256. -/
def replyChecksumOk (status mode shutter gain checksum : Byte) : Bool :=
  0xA9 + status + mode + shutter + gain + checksum = 0

/-- R199, R205: the alert set and sticky set as READ_ALERTS returns them. -/
def alertBytes (alerts sticky : Half) : List Byte := halfBytes alerts ++ halfBytes sticky

/-- The bytes that follow the status code, for the replies whose items have a coding in R193 to R205; none for the others.
READ_FRAMES' layout is stated whole (R204), and IDENTIFY and READ_ALERTS are in the order of R195 and R200. No rule states these,
which are the model's (DESIGN CHOICE, entry 24): slot before reason (INVALID_PROGRAM, BAD_STATE), slot before bank (BAD_STATE),
parameter id before value, commit result before bank, PUT_SEGMENT's bank before its clamped-field set, and one byte each for a field
number, a slot, a reason, a bank, a commit result and an id. READ_SEGMENT's order and empty mark are entry 24 too. -/
def replyDataBytes : ReplyData → Option (List Byte)
  | .empty => some []
  | .identify part revision slots maxLen =>
    some [BitVec.ofNat 8 part, BitVec.ofNat 8 revision, BitVec.ofNat 8 slots, BitVec.ofNat 8 maxLen]
  | .field n => some [BitVec.ofNat 8 n]
  | .check slot reason => some [BitVec.ofNat 8 slot, checkReasonCode reason]
  | .slotBank slot bank => some [BitVec.ofNat 8 slot, bankCode bank]
  | .parameter id value => some (id :: wordBytes (BitVec.ofInt 32 value))
  | .content bank none => some [bankCode bank, 1]
  | .content bank (some g) => some (bankCode bank :: 0 :: segmentBytes g)
  | .written bank clamped =>
    some [bankCode bank, clamped.extractLsb' 0 8, clamped.extractLsb' 8 8, clamped.extractLsb' 16 8]
  | .bank bank => some [bankCode bank]
  | .commit deferred bank => some [if deferred then 1 else 0, bankCode bank]
  | .frames held overwritten records =>
    some (halfBytes (BitVec.ofNat 16 held) ++ wordBytes (BitVec.ofNat 32 overwritten) ++
      BitVec.ofNat 8 records.length :: records.flatMap logRecordBytes)
  | .alerts alerts sticky => some (alertBytes alerts sticky)
  | .clock _ _ _ | .run _ | .holdState _ _ | .reentered _ | .resumed _ _ _ | .resumeRecord _
  | .metering _ _ _ _ _ | .account _ | .power _ | .released _ _ _ | .logInfo _ _ _ _ _ | .linkStats _ _ _ _ _ _ _
  | .sequencer _ | .meterRamp _ | .camera _ | .testRecord _ => none

/-- The bytes of a whole reply frame on LTX (R184, R202), where the layout of its data is stated. -/
def replyBytes (r : Reply) : Option (List Byte) :=
  (replyDataBytes r.data).map fun d => frameBytes r.kind (statusCode r.status :: d)

/-- R184: a reply carries the request's KIND with bit 7 set. -/
def replyKind (kind : Byte) : Byte := kind ||| 0x80

/-- A reply to a request. -/
def replyTo (r : Request) (status : Status) (data : ReplyData) : Reply :=
  { kind := replyKind r.kind, status := status, data := data }

end Sys2Proof.Machine
end

