-- ==== Sys2Proof/Machine/Ops.lean ====
section
/-! DEFINITION. The operations the blocks share: reading the clocks (R22, R23), the banks and the program check (R1, R13,
R15), meter requests (R49), the frame grid (R42, R46), the charge account and the budget level (R151 to R160), camera
power (R102), and the frame log's write (R176). -/

namespace Sys2Proof.Machine

/-! ## Run time and wall time -/

/-- "now" is the present value of the run counter (R22). -/
def now (s : State) : Nat := s.tb.runCounter

/-- R22: a registered compare is taken when the run counter reaches its value. -/
def reached (t : Option Nat) (s : State) : Bool :=
  match t with
  | some t => decide (t ≤ now s)
  | none => false

/-- R23: the wall time that belongs to a run time, as seconds and ticks: the present wall clock plus (t − now) ticks, with
the carry into the seconds and their wrap. Before wall time 0, which no rule states, the seconds are a free value (DESIGN
CHOICE, entry 43). -/
def wallTimeAt (tb : Timebase) (t : Nat) : Nat × Nat :=
  let total : Int := ((tb.seconds * 1024 + tb.ticks : Nat) : Int) + ((t : Int) - (tb.runCounter : Int))
  (if total < 0 then (Config.secondsBeforeZero (-total).toNat).toNat else total.toNat / 1024 % 4294967296,
    (total % 1024).toNat)

/-- R23: the seconds count modulo 86,400. -/
def timeOfDay (seconds : Nat) : Nat := seconds % 86400

/-- R23. -/
def minuteOfDay (seconds : Nat) : Nat := timeOfDay seconds / 60

/-- R23: one tick of the wall clock, with the carry into the seconds and their wrap. -/
def wallTick (tb : Timebase) : Timebase :=
  if tb.ticks < 1023 then { tb with ticks := tb.ticks + 1 }
  else { tb with ticks := 0, seconds := (tb.seconds + 1) % 4294967296 }

/-- R22: one tick of the run counter; past 2^48 − 1 a free value (entry 7). -/
def runTick (tb : Timebase) : Timebase :=
  { tb with
    runCounter := if tb.runCounter + 1 < 281474976710656 then tb.runCounter + 1 else Config.runCounterAfterTop.toNat }

/-! ## Program store -/

/-- The other bank. -/
def otherBank : BankName → BankName
  | .a => .b
  | .b => .a

/-- The content of a physical bank. -/
def bankOf (p : ProgramStore) : BankName → Bank
  | .a => p.bankA
  | .b => p.bankB

/-- The physical name of the staged bank. -/
def stagedName (p : ProgramStore) : BankName := otherBank p.active

/-- The program that the sequencer walks (R1). -/
def activeBank (p : ProgramStore) : Bank := bankOf p p.active

/-- The bank that PUT_SEGMENT writes (R1). -/
def stagedBank (p : ProgramStore) : Bank := bankOf p (stagedName p)

/-- `p` with the staged bank's content replaced. -/
def setStaged (p : ProgramStore) (b : Bank) : ProgramStore :=
  match p.active with
  | .a => { p with bankB := b }
  | .b => { p with bankA := b }

/-- A slot's content: none when empty, and none for an index above 23. -/
def slotOf (b : Bank) (i : Nat) : Option Segment := (b[i]?).join

/-- R2: a segment's fields are read from the active bank each time they are used. An empty slot, which no walk reaches
(R33), reads as a free value (entry 16). -/
def segmentAt (s : State) (slot : Nat) : Segment := (slotOf (activeBank s.prog) slot).getD Config.emptySlot

/-- R15: the roles are exchanged, no slot changes, and the commit-pending flag is clear. -/
def swapBanks (s : State) : State := s.modProg fun p => { p with active := otherBank p.active, commitPending := false }

/-- R13, step 2, for one slot. -/
def checkSlot (overhead : Nat) (b : Bank) (i : Nat) : Option (Nat × CheckReason) :=
  match slotOf b i with
  | none => none
  | some g =>
    if g.next = .next ∧ (slotOf b (i + 1)).isNone then some (i, .nextUndefined)
    else if g.next = .jump ∧ (slotOf b g.jump).isNone then some (i, .jumpUndefined)
    else if g.interval < overhead + 1024 then some (i, .intervalShort)
    else none

/-- R13: the first failure, or none when the bank may be walked. -/
def programCheck (overhead : Nat) (b : Bank) : Option (Nat × CheckReason) :=
  if (slotOf b 0).isNone then some (0, .slot0Empty) else (List.range 24).findSome? (checkSlot overhead b)

/-- R79 step 3, for one bank: the first defined slot whose interval is less than the overhead + 1024. -/
def shortInterval (overhead : Nat) (b : Bank) : Option Nat :=
  (List.range 24).find? fun i => ((slotOf b i).map fun g => decide (g.interval < overhead + 1024)).getD false

/-- R20: the lock refuses outside HOLD. -/
def locked (s : State) : Bool := s.prog.lock && s.seq.state != .hold

/-! ## Frames in hand -/

/-- A run frame is in flight (R105): in hand, its outcome not known. -/
def frameInFlight (s : State) : Bool :=
  match s.cam.frame with
  | some f => decide (f.kind = .run)
  | none => false

/-- A test shot is in flight (R121). -/
def testInFlight (s : State) : Bool :=
  match s.cam.frame with
  | some f => decide (f.kind = .test)
  | none => false

/-! ## Meter requests -/

/-- The queue slot of a class. -/
def queueSlot (m : Meter) : MeterClass → QueueSlot
  | .frame => m.frame
  | .battery => m.battery
  | .temperature => m.temperature
  | .solar => m.solar
  | .host => m.host

/-- `m` with a class's queue slot replaced. -/
def setQueueSlot (m : Meter) (c : MeterClass) (q : QueueSlot) : Meter :=
  match c with
  | .frame => { m with frame := q }
  | .battery => { m with battery := q }
  | .temperature => { m with temperature := q }
  | .solar => { m with solar := q }
  | .host => { m with host := q }

/-- The classes in their order of priority (R48). -/
def meterClasses : List MeterClass := [.frame, .battery, .temperature, .solar, .host]

/-- Whether a slot holds a running job. -/
def isRunning : QueueSlot → Bool
  | .running _ _ _ _ => true
  | .empty | .waiting _ => false

/-- Whether a slot holds a waiting job. -/
def isWaiting : QueueSlot → Bool
  | .waiting _ => true
  | .empty | .running _ _ _ _ => false

/-- The class of the running job; none when the converter is idle (R65). -/
def runningClass (m : Meter) : Option MeterClass := meterClasses.find? fun c => isRunning (queueSlot m c)

/-- R50: a job starts now and reads the sample count and the calibration. -/
def startJob (c : MeterClass) (job : JobRequest) (s : State) : State :=
  s.modMeter fun m => setQueueSlot m c (.running job (now s) s.params.sampleCount s.params.calibration)

/-- R49: a request reaches the meter. A merged job has the latest requester as its owner and takes its rounding mode. A
request that finds its slot EMPTY waits for the end of its event, where an idle converter starts it (`serveMeter`). -/
def meterRequest (c : MeterClass) (owner : Owner) (rounding : Rounding) (s : State) : State :=
  let job : JobRequest := { owner := owner, rounding := rounding }
  s.modMeter fun m =>
    setQueueSlot m c
      (match queueSlot m c with
        | .empty | .waiting _ => .waiting job
        | .running _ start n cal => .running job start n cal)

/-- The classes with a WAITING job, in their order of priority. -/
def waitingClasses (m : Meter) : List MeterClass := meterClasses.filter fun c => isWaiting (queueSlot m c)

/-- R49, R50: a class's WAITING job starts. -/
def startWaiting (c : MeterClass) (s : State) : State :=
  match queueSlot s.meter c with
  | .waiting job => startJob c job s
  | .empty | .running _ _ _ _ => s

/-- R49, R50: a converter with no job running starts a WAITING one at the end of the event that began in `s0`. When a job
ended in the event, the class of highest priority is granted, after the result has been delivered (R51). When the converter was
idle, the requests of the event reached it together, and which is taken first is a free value (DESIGN CHOICE, entry 42). -/
def serveMeter (s0 s : State) : State :=
  if (runningClass s.meter).isSome then s
  else
    match waitingClasses s.meter with
    | [] => s
    | [c] => startWaiting c s
    | c :: d :: rest =>
      if (runningClass s0.meter).isSome then startWaiting c s
      else
        startWaiting ((c :: d :: rest).getD (Config.requestChoice s.choices % (rest.length + 2)) c)
          { s with choices := s.choices + 1 }

/-! ## Budget level, stretch and leads -/

/-- R160: the stretch factor of a budget level. -/
def stretchOf (p : Params) (level : Nat) : Nat :=
  match level with
  | 0 => p.stretch0
  | 1 => p.stretch1
  | 2 => p.stretch2
  | _ => p.stretch3

/-- R160: the stretch factor in force. -/
def stretch (s : State) : Nat := stretchOf s.params s.pow.budgetLevel

/-- R160: the keep-on permission. -/
def keepOnPermission (s : State) : Bool := decide (2 ≤ s.pow.budgetLevel)

/-- R106: the effective meter lead. -/
def effectiveMeterLead (p : Params) : Nat := max p.meterLead (p.settingLead + 64)

/-- R42: the wake lead when the capture phase is OFF or COOLDOWN, otherwise the (effective) meter lead. -/
def preparationLead (s : State) : Nat :=
  if s.cam.phase = .off ∨ s.cam.phase = .cooldown then s.params.wakeLead else effectiveMeterLead s.params

/-! ## The frame grid -/

/-- R42: I_eff of the grid. -/
def Grid.iEff (g : Grid) : Nat := g.interval * g.factor

/-- R42: the due time of the grid's next frame. -/
def Grid.nextDue (g : Grid) : Nat := g.anchor + g.index * g.iEff

/-- R42: the grid is anchored for the segment just entered, and its preparation start registered. -/
def anchorGrid (s : State) (slot : Nat) : State :=
  let interval := (segmentAt s slot).interval
  let factor := stretch s
  let soonest := now s + preparationLead s
  let anchor :=
    match s.seq.lastDue with
    | some d => max (d + interval * factor) soonest
    | none => soonest
  s.modSeq fun q =>
    { q with
      grid := some { anchor := anchor, index := 0, interval := interval, factor := factor }
      prepRegistered := true
      stretchPending := false }

/-- R46: re-anchoring at the last due with the new factor, or as at entry when that leaves less than one preparation lead.
With no last due the grid is anchored as R42 says (entry 18). -/
def reanchor (s : State) : State :=
  match s.seq.grid with
  | none => s
  | some g =>
    let iNew := g.interval * stretch s
    let soonest := now s + preparationLead s
    let grid : Grid :=
      match s.seq.lastDue with
      | some d =>
        if d + iNew < soonest then { anchor := soonest, index := 0, interval := g.interval, factor := stretch s }
        else { anchor := d, index := 1, interval := g.interval, factor := stretch s }
      | none => { anchor := soonest, index := 0, interval := g.interval, factor := stretch s }
    s.modSeq fun q => { q with grid := some grid, stretchPending := false }

/-- R46: a stretch change reaches the sequencer. With a segment current in RUNNING it re-anchors at once, or, with a
frame in flight, is kept for that frame's boundary; elsewhere it has no effect (R128, R135). -/
def stretchChanged (s : State) : State :=
  if s.seq.state = .running ∧ s.seq.current.isSome then
    if frameInFlight s then s.modSeq fun q => { q with stretchPending := true } else reanchor s
  else s

/-! ## The charge account -/

/-- R151: the top of the account, capacity × 3600 mA·s. -/
def accountTop (p : Params) : Nat := p.capacity * 3600

/-- Step 2 of R153: whole mA·s move from the remainder into the account. -/
def takeCharge (amount : Nat) (p : Power) : Power :=
  { p with
    remainder := (p.remainder + amount) % 1024000
    account := p.account - (p.remainder + amount) / 1024000 }

/-- R152: the present draw from the consumer states. -/
def drawOf (p : Params) (core : CoreState) (camera heat : Bool) : Nat :=
  (match core with
    | .run => p.runCurrent
    | .doze => p.dozeCurrent) +
  (if camera then p.cameraCurrent else 0) + (if heat then p.heaterCurrent else 0)

/-- Step 4 of R153. -/
def formDraw (s : State) : State :=
  s.modPow fun p => { p with draw := drawOf s.params p.core s.cam.power p.heat }

/-- R153: an accrual, up to the forming of the levels. -/
def accrue (s : State) : State :=
  formDraw (s.modPow fun p =>
    { takeCharge (p.draw * (now s - p.lastAccrual)) p with lastAccrual := now s })

/-- R158: the per-mille of the account. -/
def perMille (s : State) : Nat := s.pow.account * 1000 / accountTop s.params

/-- R158: the fall thresholds that pm reaches. -/
def downLevel (pm : Nat) : Nat :=
  (if 100 ≤ pm then 1 else 0) + (if 250 ≤ pm then 1 else 0) + (if 500 ≤ pm then 1 else 0)

/-- R158: the rise thresholds that pm reaches. -/
def upLevel (pm : Nat) : Nat :=
  (if 120 ≤ pm then 1 else 0) + (if 270 ≤ pm then 1 else 0) + (if 520 ≤ pm then 1 else 0)

/-- R158: the charge level formed again. -/
def nextChargeLevel (level pm : Nat) : Nat :=
  if downLevel pm < level then downLevel pm else if level < upLevel pm then upLevel pm else level

/-- R159. -/
def budgetOf (v : Voltage) (chargeLevel : Nat) : Nat :=
  match v with
  | .normal => chargeLevel
  | .low | .critical => min chargeLevel 1

/-! ## Keep-on, levels and camera power -/

/-- R116: the effective interval of the current segment at the stretch factor in force. -/
def currentIEff (s : State) : Option Nat := s.seq.current.map fun c => (segmentAt s c.slot).interval * stretch s

/-- The three conditions of R116. -/
def keepOnHolds (s : State) : Bool :=
  decide (s.seq.state = .running) && !s.seq.stopPending &&
  ((currentIEff s).map fun i => decide (i < s.params.keepOnThreshold)).getD false && keepOnPermission s

/-- R117: in IDLE_ON, CAMPWR goes off and the phase becomes OFF when the conditions no longer hold; the change of CAMPWR
makes an accrual (R154). -/
def keepOnOff (s : State) : State :=
  if s.cam.phase = .idleOn ∧ keepOnHolds s = false then
    accrue (s.modCam fun c => { c with phase := .off, power := false })
  else s

/-- R158, R159, R160: the charge level and the budget level are formed; a change of the stretch factor goes to the
sequencer and then the keep-on conditions are tested (entry 14). -/
def formLevels (s : State) : State :=
  let charge := nextChargeLevel s.pow.chargeLevel (perMille s)
  let s1 := s.modPow fun p => { p with chargeLevel := charge, budgetLevel := budgetOf p.voltage charge }
  let s2 := if stretch s1 = stretch s then s1 else stretchChanged s1
  keepOnOff s2

/-- The levels formed until nothing moves: a camera switched off by the first forming makes an accrual, after which the
levels are formed once more; a second accrual in one event charges nothing (R153). -/
def settleLevels (s : State) : State := formLevels (formLevels s)

/-- R153, R154: an accrual with the levels formed after it. -/
def accrual (s : State) : State := settleLevels (accrue s)

/-- R102, R154: CAMPWR set; a change makes an accrual. -/
def setCamPower (on : Bool) (s : State) : State :=
  if s.cam.power = on then s else accrual (s.modCam fun c => { c with power := on })

/-- R154, R164: HEAT set; a change makes an accrual. -/
def setHeat (on : Bool) (s : State) : State :=
  if s.pow.heat = on then s else accrual (s.modPow fun p => { p with heat := on })

/-- R155: the frame charge. -/
def chargeFrame (s : State) : State := settleLevels (s.modPow (takeCharge (s.params.frameCharge * 1024000)))

/-! ## The frame log -/

/-- A counter of R168: returns to 0 after 4,294,967,295. -/
def counterAdd (n k : Nat) : Nat := (n + k) % 4294967296

/-- R177: three quarters of the log size. -/
def nearFullMark (size : Nat) : Nat := size * 3 / 4

/-- Steps 1 to 3 of R176. -/
def storeRecord (size : Nat) (r : LogRecord) (l : FrameLog) : FrameLog :=
  if l.records.length < size then
    { l with records := l.records ++ [r], written := counterAdd l.written 1 }
  else
    { l with
      records := l.records.tail ++ [r]
      readIndex := (l.readIndex + 1) % size
      overwritten := counterAdd l.overwritten 1
      written := counterAdd l.written 1 }

/-- R176, R177: a record written, with its alerts. -/
def logWrite (r : LogRecord) (s : State) : State :=
  let size := s.params.logSize
  let full := decide (size ≤ s.log.records.length)
  let s1 := s.modLog (storeRecord size r)
  let s2 := if full then raiseAlert .logOverwrite s1 else s1
  if nearFullMark size ≤ s2.log.records.length then raiseAlert .logNearFull s2 else s2

/-- R172, R173: the marks of the metered value as flags, for a frame with no computation. -/
def meteredFlags (m : Option Metered) : Half :=
  match m with
  | some m => flagIf m.dark flagDark ||| flagIf m.late flagMeterLate
  | none => 0

/-- R171 to R173, R175: the record of a frame at its outcome. -/
def frameRecord (s : State) (outcome : Outcome) (cause : RecordCause) (f : Frame) (value : Int) : LogRecord :=
  { outcome := outcome
    run := s.seq.runNumber
    frame := f.number
    segment := f.slot
    flags :=
      (if f.exposure.isSome then f.flags else meteredFlags f.metered) |||
      flagIf (1 < f.factor) flagStretched ||| flagIf (!s.tb.valid) flagClockInvalid
    cause := cause
    dueSeconds := (wallTimeAt s.tb f.due).1
    dueTicks := (wallTimeAt s.tb f.due).2
    lAvg := f.metered.map fun m => m.value
    eT := f.exposure.map fun e => e.eT
    mode := f.exposure.map fun e => e.mode
    value := value
    gain := (f.exposure.bind fun e => e.applied).map fun a => a.gain
    residual := (f.exposure.bind fun e => e.applied).map fun a => a.residual
    level := s.pow.budgetLevel }

/-! ## Frame numbers -/

/-- R44, R137: the frame counter after `count` more frames; the number after 4,294,967,295 is 1. -/
def advanceFrames (counter count : Nat) : Nat :=
  if count = 0 then counter else (counter + count - 1) % 4294967295 + 1

/-- R27: run numbers 1..255, wrapping from 255 to 1. -/
def nextRun (n : Nat) : Nat := n % 255 + 1

/-! ## The end of a run -/

/-- The sequencer enters ENDED (R30, R31): the preparation start is withdrawn, and no segment is current, so no grid
stands (entry 20). The latch and the record are emptied (R128, R135). -/
def enterEnded (s : State) : State :=
  s.modSeq fun q =>
    { q with
      state := .ended
      grid := none
      prepRegistered := false
      stretchPending := false
      awaitingSeed := false
      hold := none }

end Sys2Proof.Machine
end

