-- ==== Sys2Proof/Machine/Ramp.lean ====
section
/-! DEFINITION. The exposure computation in integer arithmetic: rounding (R67), the filter (R69), bias, raw target, mode and
slew, cap, bounds and clamp (R72 to R78), the test shot's own computation (R81), and the split into duration, gain, mode,
bulb ticks and codes (R83 to R86). -/

namespace Sys2Proof.Machine

/-! ## Rounding and logarithm -/

/-- R67: rnd of num / den for a positive den: DOWN is the floor, NEAREST the floor of the value plus one half. -/
def rnd (mode : Rounding) (num den : Int) : Int :=
  match mode with
  | .down => num / den
  | .nearest => (2 * num + den) / (2 * den)

/-- R53, R76: 16p + m for a value above 0, p being the position of its highest set bit and
m = floor((v − 2^p) × 16 / 2^p). -/
def log16 (v : Nat) : Int :=
  let p := Nat.log2 v
  ((16 * p + (v - 2 ^ p) * 16 / 2 ^ p : Nat) : Int)

/-! ## The filter -/

/-- R69: one step of F toward 16·Lavg. -/
def filterStep (mode : Rounding) (k : Nat) (f lAvg : Int) : Int := f + rnd mode (16 * lAvg - f) (2 ^ k)

/-- R69, fresh frame metering: the filter is seeded when unseeded and stepped otherwise. -/
def filterUpdate (g : Segment) (lAvg : Int) (r : Ramp) : Ramp :=
  if r.seeded then { r with f := filterStep g.rounding g.smoothing r.f lAvg }
  else { r with seeded := true, f := 16 * lAvg }

/-! ## Bias, raw target, mode and slew -/

/-- R72: num and den of the bias fraction, for the three termination kinds that have one. W0 and Δ pending give none. -/
def biasFraction (tb : Timebase) (g : Segment) (e : Entry) : Option (Int × Int) :=
  match g.term with
  | .frames => some (e.exposureCount, g.termArg.toNat)
  | .duration => some ((((tb.runCounter - e.runTime) / 1024 : Nat) : Int), g.termArg.toNat)
  | .clock =>
    match e.w0, e.span with
    | some w0, some span => some ((tb.seconds : Int) - w0, span)
    | _, _ => none
  | .lightBelow | .lightAbove | .levelBelow | .forever => none

/-- R72: num clamped to [0, den]. -/
def biasOf (g : Segment) (fraction : Option (Int × Int)) : Int :=
  match fraction with
  | some (num, den) => g.biasStart + rnd g.rounding ((g.biasEnd - g.biasStart) * clampInt 0 den num) den
  | none => g.biasStart

/-- R73. -/
def rawTarget (mode : Rounding) (k f bias : Int) : Int := k - rnd mode f 16 + bias

/-- R74: E_s. -/
def modeTarget (g : Segment) (ePrev : Option Int) (eRaw : Int) : Int :=
  match g.mode, ePrev with
  | .ramp, some p => p + clampInt (-(g.slew : Int)) g.slew (eRaw - p)
  | .ramp, none => eRaw
  | .fixed, _ => g.fixedE
  | .holdLast, some p => p
  | .holdLast, none => eRaw

/-- R74: the SLEW flag, set when the clamp changes the difference. -/
def slewFlag (g : Segment) (ePrev : Option Int) (eRaw : Int) : Bool :=
  match g.mode, ePrev with
  | .ramp, some p => decide (eRaw - p < -(g.slew : Int) ∨ (g.slew : Int) < eRaw - p)
  | .ramp, none => false
  | .fixed, _ => false
  | .holdLast, _ => false

/-! ## Cap, bounds and clamp -/

/-- R76: C_int. -/
def intervalCap (avail : Nat) : Int := log16 avail - 160

/-- R77: the duration cap, Dcap. -/
def durationCap (g : Segment) (avail : Nat) : Int := min g.dMax (intervalCap avail)

/-- R77: the duration floor, D_lo. -/
def durationFloor (g : Segment) (avail : Nat) (link : Bool) (bulbThreshold : Int) : Int :=
  if link then min g.dMin (durationCap g avail) else min (max g.dMin bulbThreshold) (durationCap g avail)

/-- R77: the effective G_max. -/
def gainCap (g : Segment) (link : Bool) : Int := if link then g.gMax else 0

/-- R78: E_t. -/
def clampTarget (lo hi e : Int) : Int := if hi < e then hi else if e < lo then lo else e

/-! ## Split -/

/-- R85: the table of 2^(r/16) × 4096. -/
def bulbTable : List Nat :=
  [4096, 4277, 4467, 4664, 4871, 5087, 5312, 5547, 5793, 6049, 6317, 6597, 6889, 7194, 7512, 7845]

/-- R85: the bulb ticks of a duration before the clamp, T[r] × 2^q / 4 rounded. -/
def rawBulbTicks (mode : Rounding) (d : Int) : Int :=
  let t : Int := (bulbTable.getD (d % 16).toNat 0 : Nat)
  let q := d / 16
  if 0 ≤ q then rnd mode (t * 2 ^ q.toNat) 4 else rnd mode t (4 * 2 ^ (-q).toNat)

/-- R85: the bulb ticks, clamped to [1, avail]; a count below 1 becomes 1, one above avail becomes avail. -/
def bulbTicks (mode : Rounding) (avail : Nat) (d : Int) : Nat :=
  let n := rawBulbTicks mode d
  if n < 1 then 1 else if (avail : Int) < n then avail else n.toNat

/-- R84. -/
def modeOf (bulbThreshold d : Int) (link : Bool) : CamMode :=
  if bulbThreshold ≤ d ∨ link = false then .bulb else .timed

/-! ## The computation of a frame -/

/-- What a computation reads (R70, R81): the frame's segment, F, E_prev, the bias fraction, I_eff, and the parameters. -/
structure ComputeInput where
  seg : Segment
  f : Int
  ePrev : Option Int
  fraction : Option (Int × Int)
  iEff : Nat
  k : Int
  overhead : Nat
  bulbThreshold : Int
  link : Bool
  deriving DecidableEq, Repr

/-- R70 to R78, R83 to R86: the exposure record of a computation, its exchange still to come. -/
def computeExposure (i : ComputeInput) : Exposure :=
  let avail := i.iEff - i.overhead
  let bias := biasOf i.seg i.fraction
  let eRaw := rawTarget i.seg.rounding i.k i.f bias
  let eS := modeTarget i.seg i.ePrev eRaw
  let dCap := durationCap i.seg avail
  let dLo := durationFloor i.seg avail i.link i.bulbThreshold
  let gMaxEff := gainCap i.seg i.link
  let eT := clampTarget dLo (dCap + gMaxEff) eS
  let d := max (min eT dCap) dLo
  let g := max (eT - d) 0
  let mode := modeOf i.bulbThreshold d i.link
  { f := i.f, bias := bias, eRaw := eRaw, eS := eS, eT := eT, dLo := dLo, dCap := dCap, gMaxEff := gMaxEff,
    avail := avail, rounding := i.seg.rounding, d := d, g := g, mode := mode,
    ticks := bulbTicks i.seg.rounding avail d
    sReq :=
      match mode with
      | .timed => rnd i.seg.rounding d 2
      | .bulb => 0
    gReq := rnd i.seg.rounding g 2
    applied := none }

/-- R74, R78, R80: the flags a computation sets, with those of the metered value. -/
def computeFlags (i : ComputeInput) (m : Metered) (factor : Nat) : Half :=
  let e := computeExposure i
  flagIf m.dark flagDark ||| flagIf m.late flagMeterLate ||| flagIf (slewFlag i.seg i.ePrev e.eRaw) flagSlew |||
  flagIf (decide (e.dCap + e.gMaxEff < e.eS)) flagSatHi |||
  flagIf (decide (e.eS < e.dLo) && !decide (e.dCap + e.gMaxEff < e.eS)) flagSatLo |||
  flagIf (decide (1 < factor)) flagStretched

/-- R70: what the computation of a run frame reads. -/
def runInput (s : State) (f : Frame) : ComputeInput :=
  let seg := segmentAt s f.slot
  { seg := seg, f := s.ramp.f, ePrev := s.ramp.ePrev
    fraction :=
      match s.seq.current with
      | some c => biasFraction s.tb seg c.entry
      | none => none
    iEff := f.iEff, k := s.params.k, overhead := s.params.overhead, bulbThreshold := s.params.bulbThreshold
    link := decide (s.params.linkPresent = 1) }

/-- R81: what the computation of a test shot reads: slot 0, the private filter seeded from the metered value, E_prev
unset, and num = 0, so that the bias is bias start. -/
def testInput (s : State) (m : Metered) : ComputeInput :=
  let seg := segmentAt s 0
  { seg := seg, f := 16 * m.value, ePrev := none, fraction := none, iEff := seg.interval * stretch s
    k := s.params.k, overhead := s.params.overhead, bulbThreshold := s.params.bulbThreshold
    link := decide (s.params.linkPresent = 1) }

end Sys2Proof.Machine
end

