-- ==== Sys2Proof/Machine/Exchange.lean ====
section
/-! DEFINITION. The accessory exchange: its opening (R89), the judgement of a reply (R90), its closing as succeeded or failed
with the applied values and the residual (R94 to R98), and its absence (R93). -/

namespace Sys2Proof.Machine

/-- R94: the residual is clamped to −127..127. -/
def clampResidual (r : Int) : Int := clampInt (-127) 127 r

/-- The reasons an exchange fails with (R90, R91). No state and no reply keeps the reason. -/
inductive FailReason where
  | checksum | refused | mode | timeout
  deriving DecidableEq, Repr

/-- How an exchange closed. -/
inductive ExchangeResult where
  | success (shutter gain : Int)
  | failure (reason : FailReason)
  deriving DecidableEq, Repr

/-- R94: the applied values of a successful exchange. -/
def successApplied (e : Exposure) (shutter gain : Int) : Applied :=
  match e.mode with
  | .timed => { value := shutter, gain := gain, residual := clampResidual (e.eT - 2 * (shutter + gain)) }
  | .bulb => { value := e.ticks, gain := gain, residual := clampResidual (e.eT - (e.d + 2 * gain)) }

/-- R96: the compensated duration D′. -/
def compensated (e : Exposure) (gain : Int) : Int := clampInt e.dLo e.dCap (e.d + e.g - 2 * gain)

/-- R95 to R97: the exposure record and the flags after a failed exchange, by the frame's mode and the last-known
settings. -/
def failExposure (e : Exposure) (settings : Option CamSettings) : Exposure × Half :=
  match e.mode, settings with
  | .timed, some { mode := .timed, shutter := sh, gain := gn } =>
    ({ e with
        applied := some { value := sh, gain := gn, residual := clampResidual (e.eT - 2 * (sh + gn)) } }, flagSetFail)
  | .timed, _ =>
    ({ e with applied := some { value := e.sReq, gain := e.gReq, residual := 0 } }, flagSetFail ||| flagResidUnknown)
  | .bulb, some { mode := .bulb, shutter := _, gain := gn } =>
    let d' := compensated e gn
    let ticks := bulbTicks e.rounding e.avail d'
    ({ e with
        ticks := ticks
        applied := some { value := ticks, gain := gn, residual := clampResidual (e.eT - (d' + 2 * gn)) } },
      flagSetFail ||| flagCompensated)
  | .bulb, _ =>
    ({ e with applied := some { value := e.ticks, gain := e.gReq, residual := 0 } }, flagSetFail ||| flagResidUnknown)

/-- The exposure record and the flags an exchange's close gives (R94, R95 to R98). -/
def closedExposure (e : Exposure) (settings : Option CamSettings) : ExchangeResult → Exposure × Half
  | .success shutter gain => ({ e with applied := some (successApplied e shutter gain) }, 0)
  | .failure _ => failExposure e settings

/-- R93: the record finished at once with the link absent: gain 0 and residual 0. -/
def finishWithoutLink (e : Exposure) : Exposure :=
  { e with applied := some { value := e.ticks, gain := 0, residual := 0 } }

/-- The exchange is IDLE, with nothing under assembly and no window (R90 to R92). -/
def idleExchange (c : Camera) : Camera :=
  { c with exchange := .idle, assembling := false, setting := none, replyWindowAt := none }

/-- R89: the exchange opens; the reply window of 192 ticks starts. -/
def openExchange (e : Exposure) (s : State) : State :=
  s.modCam fun c =>
    { c with
      exchange := .sending
      assembling := false
      setting := some { mode := e.mode, shutter := e.sReq, gain := e.gReq }
      replyWindowAt := some (now s + 192) }

/-- An open exchange closes (R90, R91): the frame's record is finished, its flags join the frame's, SET_FAIL and
COMPENSATED join the sticky set for a run frame (R98, R100), and the phase becomes WAIT_DUE. `extra` is SET_LATE when d
closes it. -/
def closeExchange (result : ExchangeResult) (extra : Half) (s : State) : State :=
  match s.cam.frame with
  | none => s.modCam idleExchange
  | some f =>
    match f.exposure with
    | none => s.modCam idleExchange
    | some e =>
      let r := closedExposure e s.cam.settings result
      let s1 := s.modCam fun c =>
        { idleExchange c with
          phase := .waitDue
          frame := some { f with exposure := some r.1, flags := f.flags ||| r.2 ||| extra } }
      if f.kind = .run then addSticky (r.2 &&& stickyOfExchange) s1 else s1

/-- An exchange is SENDING or AWAITING. -/
def exchangeOpen (s : State) : Bool := s.cam.exchange != .idle

/-- R90: a complete reply record is judged for checksum, status and mode; an APPLIED reply with a defined mode updates the
last-known settings (R87). -/
def judgeReply (status mode shutter gain checksum : Byte) (s : State) : State :=
  if replyChecksumOk status mode shutter gain checksum = false then closeExchange (.failure .checksum) 0 s
  else if status ≠ 0x01 then closeExchange (.failure .refused) 0 s
  else
    match linkModeOf mode with
    | none => closeExchange (.failure .refused) 0 s
    | some m =>
      let s1 := s.modCam fun c =>
        { c with settings := some { mode := m, shutter := shutter.toInt, gain := gain.toNat } }
      let frameMode := (s.cam.frame.bind fun f => f.exposure).map fun e => e.mode
      if frameMode = some m then closeExchange (.success shutter.toInt gain.toNat) 0 s1
      else closeExchange (.failure .mode) 0 s1

/-! ## The link's own events -/

/-- R89: the last byte of the setting record has been sent. -/
def settingRecordSent (s : State) : State :=
  if s.cam.exchange = .sending then s.modCam fun c => { c with exchange := .awaiting } else s

/-- R88: in AWAITING with no record under assembly, the reply lead byte begins one. -/
def replyLeadByte (s : State) : State :=
  if s.cam.exchange = .awaiting ∧ s.cam.assembling = false then s.modCam fun c => { c with assembling := true } else s

/-- R88: a byte with a stop-bit error abandons the record under assembly; the exchange stays open. -/
def accessoryByteError (s : State) : State :=
  if s.cam.exchange = .awaiting then s.modCam fun c => { c with assembling := false } else s

/-- R90: the record under assembly is complete at its sixth byte. -/
def replyRecord (status mode shutter gain checksum : Byte) (s : State) : State :=
  if s.cam.exchange = .awaiting ∧ s.cam.assembling = true then judgeReply status mode shutter gain checksum s else s

/-- R91: the reply window's compare. -/
def replyWindowDue (s : State) : Bool := exchangeOpen s && reached s.cam.replyWindowAt s

/-- R91: the window expires, and the exchange fails with TIMEOUT. -/
def replyWindowExpiry (s : State) : State := closeExchange (.failure .timeout) 0 s

end Sys2Proof.Machine
end

