-- ==== Sys2Proof/Machine/Hold.lean ====
section
/-! DEFINITION. What parks a run: the bookkeeping of a frame boundary (R37 steps 1 to 3), cancel and cut (R118, R119), hold
entry (R126, R127), reaching HOLD (R129), the latch (R133), and the arising of a hold cause (R124). -/

namespace Sys2Proof.Machine

/-! ## The frame boundary's first steps -/

/-- What the camera controller hands the sequencer with an outcome (step 3 of R113). `byStop`: the boundary is made by the
cancel of a frame by STOP. -/
structure Report where
  outcome : Outcome
  cause : RecordCause
  frame : Frame
  value : Int
  faultLimit : Bool
  byStop : Bool
  deriving DecidableEq, Repr

/-- R37 step 1: TAKEN and UNCONFIRMED are counted; the count stays at 65535. -/
def countFrame (o : Outcome) (e : Entry) : Entry :=
  match o with
  | .taken | .unconfirmed => { e with exposureCount := min (e.exposureCount + 1) 65535 }
  | .missed | .aborted | .gap => e

/-- R41: the frame's fresh Lavg, if it has one. -/
def freshAverage (f : Frame) : Option Int := f.metered.bind fun m => if m.late then none else some m.value

/-- R41: the light debounce count after a boundary. -/
def debounceUpdate (g : Segment) (fresh : Option Int) (e : Entry) : Entry :=
  match g.term, fresh with
  | .lightBelow, some l => { e with debounce := if l < g.termArg.toInt then min (e.debounce + 1) 3 else 0 }
  | .lightAbove, some l => { e with debounce := if g.termArg.toInt ≤ l then min (e.debounce + 1) 3 else 0 }
  | _, _ => e

/-- The current segment's entry record changed by `f`. -/
def modEntry (f : Entry → Entry) (s : State) : State :=
  s.modSeq fun q => { q with current := q.current.map fun c => { c with entry := f c.entry } }

/-- R18, R19: the resume point moved to slot 0 of the new active bank, with exposure count 0, marked fresh, and the rest of
the record as it was; a fresh point has no entry times (R130). A run held from ARMED has no resume segment (R130, R135). -/
def resumeAtZero (h : HoldData) : HoldData :=
  match h.heldFrom with
  | .armed => h
  | .running => { h with resumeSlot := some 0, fresh := true, exposureCount := 0, times := none }

/-- R18, R37 step 3: a pending commit is resolved; in HOLDING it moves the resume point. COMMIT_DONE is raised (R15). -/
def resolveCommit (s : State) : State :=
  if s.prog.commitPending then
    raiseAlert .commitDone
      ((swapBanks s).modSeq fun q =>
        if q.state = .holding then { q with hold := q.hold.map resumeAtZero } else q)
  else s

/-- R37 steps 1 and 2, and the frame's log record (R170). -/
def bookFrame (r : Report) (s : State) : State :=
  let s1 := modEntry (countFrame r.outcome) s
  let s2 :=
    match s1.seq.current with
    | some c =>
      if s1.seq.state = .running ∧ s1.seq.stopPending = false ∧ r.byStop = false then
        modEntry (debounceUpdate (segmentAt s1 c.slot) (freshAverage r.frame)) s1
      else s1
    | none => s1
  logWrite (frameRecord s2 r.outcome r.cause r.frame r.value) s2

/-- The boundary up to its third step (R37, R170). -/
def boundaryBook (r : Report) (s : State) : State := resolveCommit (bookFrame r s)

/-! ## Cancel, cut and drain -/

/-- The phase of an unpowered camera: COOLDOWN while a cooldown end is still ahead, and OFF otherwise (R109, R118). -/
def unpoweredPhase (c : Camera) : Phase := if c.cooldownEnd.isSome then .cooldown else .off

/-- R118: the camera side of a cancel, with the frame still in hand: FOCUS released, the exchange abandoned, CAMPWR off. -/
def cancelCamera (s : State) : State :=
  setCamPower false (s.modCam fun c => { idleExchange c with focus := false, phase := unpoweredPhase c })

/-- R118: a cancel. With no frame in hand, an IDLE_ON camera is switched off. A frame before EXPOSING is ABORTED with the
demand's cause and its boundary is taken up to step 3. -/
def cancelFrame (cause : RecordCause) (s : State) : State :=
  match s.cam.frame with
  | none =>
    if s.cam.phase = .idleOn then setCamPower false (s.modCam fun c => { c with phase := .off }) else s
  | some f =>
    boundaryBook
      { outcome := .aborted, cause := cause, frame := f, value := 0, faultLimit := false,
        byStop := decide (cause = .stop) }
      ((cancelCamera s).modCam fun c => { c with frame := none })

/-- R112: WRITING begins at a release; the write timeout is read and the drop watch starts when READY is high. -/
def beginWriting (s : State) : State :=
  s.modCam fun c =>
    { c with
      phase := .writing
      shut := false
      focus := false
      shutterAt := none
      stage := if c.ready then .dropWatch (now s + 32) else .inProgress
      writeTimeoutAt := some (now s + s.params.writeTimeout) }

/-- R119: a cut. SHUT and FOCUS are released, the sync window closes, the frame is ABORTED with its elapsed ticks, and a
drain begins. -/
def cutFrame (f : Frame) (s : State) : State :=
  let s1 := s.modCam fun c =>
    { c with shut := false, focus := false, shutterAt := none, syncWindowAt := none, frame := none }
  let s2 := boundaryBook
    { outcome := .aborted, cause := .hold, frame := f, value := ((now s - f.due : Nat) : Int), faultLimit := false,
      byStop := false } s1
  beginWriting (s2.modCam fun c => { c with drain := true })

/-- R127: the demand of hold entry, by the capture phase it finds. -/
def demandHold (s : State) : State :=
  match s.cam.frame with
  | none => cancelFrame .hold s
  | some f =>
    match s.cam.phase with
    | .waking | .preparing | .setting | .waitDue => cancelFrame .hold s
    | .exposing => cutFrame f s
    | .writing | .off | .idleOn | .cooldown => s

/-! ## Reaching HOLD -/

/-- R120: no frame in hand, no drain, CAMPWR off. -/
def cameraParked (s : State) : Bool := s.cam.frame.isNone && !s.cam.drain && !s.cam.power

/-- R129: the resume record completed on reaching HOLD: F and E_prev, and the entry record unless the point is fresh. -/
def completeRecord (s : State) (h : HoldData) : HoldData :=
  let h1 := { h with f := s.ramp.f, ePrev := s.ramp.ePrev }
  if h.fresh then h1
  else
    match s.seq.current with
    | some c =>
      { h1 with
        exposureCount := c.entry.exposureCount
        debounce := c.entry.debounce
        times := some (c.entry.runTime, c.entry.w0, c.entry.span) }
    | none => h1

/-- R120, R128, R129: in HOLDING with the camera parked and no seed metering outstanding, HOLD is reached and
HOLD_ENTERED raised, or, with the ending mark, ENDED. -/
def holdCheck (s : State) : State :=
  if s.seq.state = .holding ∧ cameraParked s = true ∧ s.seq.awaitingSeed = false then
    if s.seq.ending then enterEnded s
    else
      raiseAlert .holdEntered
        (s.modSeq fun q => { q with state := .hold, hold := q.hold.map (completeRecord s) })
  else s

/-! ## Hold entry -/

/-- R131: the trapped exposure record, by phase: the requested values in SETTING, the finished ones afterwards. -/
def trapExposure (p : Phase) (f : Frame) : Option TrapExposure :=
  match f.exposure with
  | none => none
  | some e =>
    match p with
    | .setting =>
      some
        { mode := e.mode
          value :=
            match e.mode with
            | .bulb => e.ticks
            | .timed => e.sReq
          gain := e.gReq }
    | .waitDue | .exposing | .writing =>
      e.applied.map fun a => { mode := e.mode, value := a.value, gain := a.gain }
    | .off | .idleOn | .waking | .preparing | .cooldown => none

/-- Where a hold cause leaves the walk: at the segment in force, at a slot whose entry was stopped (R34), or at slot 0
after a swap the boundary has just made (R126). -/
inductive HoldPoint where
  | current
  | stoppedAt (slot : Nat)
  | swapped
  deriving DecidableEq, Repr

/-- R126: the resume segment. -/
def holdResumeSlot (point : HoldPoint) (q : Sequencer) : Option Nat :=
  if q.state = .armed then none
  else if q.awaitingSeed then some 0
  else
    match point with
    | .current => q.current.map fun c => c.slot
    | .stoppedAt slot => some slot
    | .swapped => some 0

/-- R126: whether the resume point is marked as a fresh entry. DESIGN CHOICE (entry 44): clear when held from ARMED, where
there is no resume point. -/
def holdFresh (point : HoldPoint) (q : Sequencer) : Bool :=
  if q.state = .armed then false
  else q.awaitingSeed || point != .current

/-- R130: the slot at the cause. -/
def holdCauseSlot (point : HoldPoint) (q : Sequencer) : Option Nat :=
  if q.state = .armed then none
  else if q.awaitingSeed then none
  else
    match point with
    | .stoppedAt slot => some slot
    | .current | .swapped => q.current.map fun c => c.slot

/-- R126 steps 1 and 2: what the sequencer records in the event of the cause. DESIGN CHOICE (entry 44): both counts 0 and the
entry times absent where no entry record is copied at HOLD, as when held from ARMED. -/
def holdDataAt (cause : HoldCause) (point : HoldPoint) (s : State) : HoldData :=
  let run := s.cam.frame.filter fun f => decide (f.kind = .run)
  { cause := cause
    hostRequested := decide (cause = .host)
    heldFrom := if s.seq.state = .armed then .armed else .running
    latch := none
    trapPhase := run.map fun _ => s.cam.phase
    trapFrame := run.map fun f => f.number
    trapExposure := run.bind (trapExposure s.cam.phase)
    elapsed :=
      match run with
      | some f => if s.cam.phase = .exposing then now s - f.due else 0
      | none => 0
    resumeSlot := holdResumeSlot point s.seq
    causeSlot := holdCauseSlot point s.seq
    fresh := holdFresh point s.seq
    exposureCount := 0
    debounce := 0
    times := none
    f := s.ramp.f
    ePrev := s.ramp.ePrev
    entryRunTime := now s
    entrySeconds := s.tb.seconds
    entryTicks := s.tb.ticks
    entryInvalid := !s.tb.valid
    stretch :=
      match s.seq.grid with
      | some g => g.factor
      | none => stretch s }

/-- R126: hold entry, one event of the sequencer; HOLD is reached in it when the camera is parked already (R129). -/
def holdEntry (cause : HoldCause) (point : HoldPoint) (s : State) : State :=
  holdCheck (demandHold (s.modSeq fun q =>
    { q with
      state := .holding
      ending := false
      prepRegistered := false
      stretchPending := false
      hold := some (holdDataAt cause point s) }))

/-! ## The latch -/

/-- The latched cause, in HOLDING and HOLD (R133). -/
def latched (s : State) : Option HoldCause := s.seq.hold.bind fun h => h.latch

/-- R133: a cause taken into an empty latch; a latched HOST sets the host-requested mark. -/
def latchCause (cause : HoldCause) (h : HoldData) : HoldData :=
  if h.latch.isNone then
    { h with latch := some cause, hostRequested := h.hostRequested || decide (cause = .host) }
  else h

/-- R133: a cause offered to the latch. -/
def offerLatch (cause : HoldCause) (s : State) : State :=
  s.modSeq fun q => { q with hold := q.hold.map (latchCause cause) }

/-- R133: a latched POWER is discarded when the voltage state leaves CRITICAL. -/
def discardLatchedPower (s : State) : State :=
  s.modSeq fun q =>
    { q with hold := q.hold.map fun h => if h.latch = some .power then { h with latch := none } else h }

/-- R124: a hold cause arises: it starts hold entry, is offered to the latch, or is dropped. -/
def causeArises (cause : HoldCause) (s : State) : State :=
  match s.seq.state with
  | .armed => holdEntry cause .current s
  | .running => if s.seq.stopPending then s else holdEntry cause .current s
  | .holding => if s.seq.ending then s else offerLatch cause s
  | .hold => offerLatch cause s
  | .idle | .ended => s

/-- R124: POWER arises at the sequencer's entry into RUNNING or ARMED while the voltage state is CRITICAL. -/
def powerCauseAtEntry (s : State) : State :=
  if s.pow.voltage = .critical then causeArises .power s else s

end Sys2Proof.Machine
end

