-- ==== Sys2Proof/Machine/Walk.lean ====
section
/-! DEFINITION. Walking the program: gates (R35), slot entry (R36), the walk with its loop guard (R33, R34), terminations
(R37 to R41) and the frame boundary (R37). -/

namespace Sys2Proof.Machine

/-! ## Gates and slot entry -/

/-- R3: whether a minute of day lies in [start, finish), wrapping past midnight when the start is the greater; equal ends
make an empty window. -/
def inWindow (start finish minute : Int) : Bool :=
  if start < finish then decide (start ≤ minute ∧ minute < finish)
  else if finish < start then decide (start ≤ minute ∨ minute < finish)
  else false

/-- R35: the gate of a slot at its entry. L_last is set before the first entry of a run (R59); unset, it meets no
threshold (entry 30). -/
def gateTrue (s : State) (g : Segment) : Bool :=
  match g.gate with
  | .always => true
  | .day => (s.meter.lLast.map fun l => decide (g.gateArg1 ≤ l)).getD false
  | .night => (s.meter.lLast.map fun l => decide (l < g.gateArg1)).getD false
  | .window => s.tb.valid && inWindow g.gateArg1 g.gateArg2 (minuteOfDay s.tb.seconds)
  | .level => decide (g.gateArg1 ≤ (s.pow.budgetLevel : Int))

/-- R40: the span Δ from W0 to the crossing of minute X; 0 is taken as 86,400. -/
def clockSpan (minute w0 : Nat) : Nat :=
  let d := (((minute * 60 : Nat) : Int) - (timeOfDay w0 : Int)) % 86400
  if d = 0 then 86400 else d.toNat

/-- R36, R40: Δ for a segment whose W0 is known; pending unless its termination kind is CLOCK. -/
def spanOf (g : Segment) (w0 : Nat) : Option Nat :=
  if g.term = .clock then some (clockSpan g.termArg.toNat w0) else none

/-- R36: the entry record of a slot entered now. -/
def entryNow (s : State) (g : Segment) : Entry :=
  { runTime := now s
    w0 := if s.tb.valid then some s.tb.seconds else none
    span := if s.tb.valid then spanOf g s.tb.seconds else none
    exposureCount := 0
    debounce := 0 }

/-- R39: LEVEL_BELOW v. -/
def levelBelow (s : State) (g : Segment) : Bool := decide (s.pow.budgetLevel < g.termArg.toNat)

/-- R31: the program ends. -/
def programEnded (s : State) : State := raiseAlert .programEnded (enterEnded s)

/-- R33, R34, R36: a walk entering `slot`; `count` is the exposure count of the first entry's record (R140). The fuel is the
loop guard's 24: each entry adds one to the walk count, so the guard stops the walk before the fuel is spent. -/
def walk (fuel slot count : Nat) (s : State) : State :=
  match fuel with
  | 0 => holdEntry .loop (.stoppedAt slot) s
  | fuel + 1 =>
    let s1 := s.modSeq fun q => { q with walkCount := q.walkCount + 1 }
    if 24 ≤ s1.seq.walkCount then holdEntry .loop (.stoppedAt slot) s1
    else
      let g := segmentAt s1 slot
      let s2 :=
        if gateTrue s1 g then
          s1.modSeq fun q =>
            { q with current := some { slot := slot, entry := { entryNow s1 g with exposureCount := count } } }
        else s1
      if gateTrue s1 g && !(decide (g.term = .levelBelow) && levelBelow s1 g) then anchorGrid s2 slot
      else
        match g.next with
        | .next => walk fuel (slot + 1) 0 s2
        | .jump => walk fuel g.jump 0 s2
        | .finish => programEnded s2

/-- A walk that starts at a slot (R33). -/
def walkFrom (slot count : Nat) (s : State) : State := walk 24 slot count s

/-- R5, R33: the walk leaves a segment for its next. -/
def walkNext (slot : Nat) (s : State) : State :=
  match (segmentAt s slot).next with
  | .next => walkFrom (slot + 1) 0 s
  | .jump => walkFrom (segmentAt s slot).jump 0 s
  | .finish => programEnded s

/-! ## Terminations -/

/-- R40: a pending W0 is taken at the first evaluation at which the clock is valid (entry 23). -/
def takeW0 (tb : Timebase) (g : Segment) (e : Entry) : Entry :=
  if tb.valid ∧ e.w0 = none then { e with w0 := some tb.seconds, span := spanOf g tb.seconds } else e

/-- R39, R40, R41: the termination of a segment with an entry record. -/
def terminationTrue (s : State) (g : Segment) (e : Entry) : Bool :=
  match g.term with
  | .frames => decide (g.termArg.toNat ≤ e.exposureCount)
  | .duration => decide (g.termArg.toNat * 1024 ≤ now s - e.runTime)
  | .clock =>
    match e.w0, e.span with
    | some w0, some span => decide ((span : Int) ≤ (s.tb.seconds : Int) - (w0 : Int))
    | _, _ => false
  | .lightBelow | .lightAbove => decide (e.debounce = 3)
  | .levelBelow => levelBelow s g
  | .forever => false

/-- An evaluation: W0 is taken if it was pending. -/
def noteEvaluation (slot : Nat) (s : State) : State := modEntry (takeW0 s.tb (segmentAt s slot)) s

/-- Whether the current segment's termination is true. -/
def currentEnds (s : State) : Bool :=
  match s.seq.current with
  | some c => terminationTrue s (segmentAt s c.slot) c.entry
  | none => false

/-- R37 step 7: the evaluation at a boundary. True, the walk goes on; false, a stretch change that arrived during the frame
is applied (R46). -/
def evaluateAtBoundary (s : State) : State :=
  match s.seq.current with
  | none => s
  | some c =>
    let s1 := noteEvaluation c.slot s
    if currentEnds s1 then walkNext c.slot s1
    else if s1.seq.stretchPending then reanchor s1
    else s1

/-- R37: the frame boundary, for an outcome not made by STOP. -/
def frameBoundary (r : Report) (s : State) : State :=
  let s1 := boundaryBook r s
  match s1.seq.state with
  | .running =>
    if s1.seq.stopPending then enterEnded s1
    else if r.faultLimit then holdEntry .camera (if s.prog.commitPending then .swapped else .current) s1
    else if s.prog.commitPending then walkFrom 0 0 s1
    else evaluateAtBoundary s1
  | .holding => if r.faultLimit && !s1.seq.ending then offerLatch .camera s1 else s1
  | .idle | .armed | .hold | .ended => s1

end Sys2Proof.Machine
end

