-- ==== Sys2Proof/Machine/CameraControl.lean ====
section
/-! DEFINITION. The camera controller: handing a frame and its timeline (R106 to R111), writing (R112), outcomes (R113),
cooldown (R114), the fault count (R115), the drain (R119) and the test shot (R121, R122). -/

namespace Sys2Proof.Machine

/-! ## Faults and the test record -/

/-- R115: an increase of the fault count, up to 15, with its alert. -/
def addFault (s : State) : State :=
  raiseAlert .cameraFault (s.modCam fun c => { c with faultCount := min (c.faultCount + 1) 15 })

/-- R115: the effect of an outcome on the count. -/
def updateFaults (o : Outcome) (timeout : Bool) (s : State) : State :=
  match o with
  | .taken => if timeout then addFault s else s.modCam fun c => { c with faultCount := 0 }
  | .unconfirmed | .missed => addFault s
  | .aborted | .gap => s

/-- R115: whether the outcome is one that increases the count. -/
def isFault (o : Outcome) (timeout : Bool) : Bool :=
  match o with
  | .taken => timeout
  | .unconfirmed | .missed => true
  | .aborted | .gap => false

/-- R115: the fault-limit mark, read from the count after the increase. -/
def faultMark (o : Outcome) (timeout : Bool) (s : State) : Bool :=
  isFault o timeout && decide (s.params.faultLimit ≤ s.cam.faultCount)

/-- R122: the record of a test shot's result. A MISSED shot has had no computation and carries no flags; its DARK or METER_LATE
mark stands in the metered value alone (DESIGN CHOICE, entry 47). -/
def testRecordOf (o : Outcome) (f : Frame) : TestRecord :=
  { state := .done, outcome := some o, due := f.due, metered := f.metered, eT := f.exposure.map fun e => e.eT
    mode := f.exposure.map fun e => e.mode, applied := f.exposure.bind fun e => e.applied, flags := f.flags
    syncSeen := f.syncSeen }

/-- R122, R81: the record is written, TEST_DONE raised and the private state discarded. -/
def writeTest (o : Outcome) (f : Frame) (s : State) : State :=
  raiseAlert .testDone
    ((s.modCam fun c => { c with frame := none, testRecord := testRecordOf o f }).modRamp fun r =>
      { r with test := none })

/-! ## Outcomes -/

/-- R113, step 1: camera power after an outcome in WRITING without a timeout (R116); a test shot never keeps the camera
on (R121). -/
def settlePower (f : Frame) (s : State) : State :=
  if f.kind = .run ∧ keepOnHolds s = true then s.modCam fun c => { c with phase := .idleOn }
  else setCamPower false (s.modCam fun c => { c with phase := .off })

/-- Steps 2 to 4 of R113 for a run frame, steps 2 and 3 replaced by the test record for a test shot. -/
def reportOutcome (o : Outcome) (cause : RecordCause) (timeout : Bool) (value : Int) (f : Frame) (s : State) : State :=
  match f.kind with
  | .test => writeTest o f s
  | .run =>
    let s1 := updateFaults o timeout s
    frameBoundary
      { outcome := o, cause := cause, frame := f, value := value, faultLimit := faultMark o timeout s1, byStop := false }
      (s1.modCam fun c => { c with frame := none })

/-- The value field of a finished record (R171). -/
def finishedValue (f : Frame) : Int := ((f.exposure.bind fun e => e.applied).map fun a => a.value).getD 0

/-- R113: TAKEN, or UNCONFIRMED when the frame had a window and no closure was seen. -/
def writtenOutcome (f : Frame) : Outcome := if f.hasWindow && !f.syncSeen then .unconfirmed else .taken

/-- WRITING is over: its timers are withdrawn. -/
def endWriting (c : Camera) : Camera := { c with stage := .none, writeTimeoutAt := none, syncWindowAt := none }

/-- R113: the outcome of a frame written, or timed out, is settled. After a timeout the phase is COOLDOWN already. -/
def frameOutcome (timeout : Bool) (f : Frame) (s : State) : State :=
  let s1 := if timeout then s else settlePower f (s.modCam endWriting)
  chargeFrame (reportOutcome (writtenOutcome f) .none timeout (finishedValue f) f s1)

/-- R119: the drain ends with the write. -/
def endDrain (s : State) : State :=
  setCamPower false (s.modCam fun c => { endWriting c with drain := false, phase := .off })

/-- R113: both conditions of a settled outcome. -/
def outcomeSettled (c : Camera) (f : Frame) : Bool :=
  decide (c.phase = .writing) && decide (c.stage = .complete) &&
  (!f.hasWindow || f.syncSeen || c.syncWindowAt.isNone)

/-- R113, R119: the outcome is settled, or the drain ended, as soon as the conditions hold. -/
def settleIfReady (s : State) : State :=
  match s.cam.frame with
  | some f => if outcomeSettled s.cam f then frameOutcome false f s else s
  | none => if s.cam.drain && decide (s.cam.stage = .complete) then endDrain s else s

/-- R112: the write is complete; the timeout is withdrawn. -/
def completeWrite (s : State) : State :=
  settleIfReady (s.modCam fun c => { c with stage := .complete, writeTimeoutAt := none })

/-! ## Lines -/

/-- R103, R112: a change of READY. A fall in the drop watch puts the write in progress; the first rise of a write in
progress completes it. A level that the input has already is no change. -/
def readyChange (rise : Bool) (s : State) : State :=
  if s.cam.ready = rise then s
  else
    let s1 := s.modCam fun c => { c with ready := rise }
    if s.cam.phase = .writing then
      match s.cam.stage, rise with
      | .dropWatch _, false => s1.modCam fun c => { c with stage := .inProgress }
      | .inProgress, true => completeWrite s1
      | _, _ => s1
    else s1

/-- R103, R111: SYNC closes, which is a change from open to closed: a contact closed before has opened since. A closure
inside the frame's window sets its sync-seen mark. -/
def syncClosure (s : State) : State :=
  let s1 := s.modCam fun c => { c with syncClosed := true }
  match s.cam.frame with
  | some f =>
    if s.cam.syncWindowAt.isSome then
      settleIfReady (s1.modCam fun c => { c with frame := some { f with syncSeen := true } })
    else s1
  | none => s1

/-! ## The frame's compares -/

def syncWindowDue (s : State) : Bool := reached s.cam.syncWindowAt s

/-- R111, R113: the window closes. -/
def syncWindowExpiry (s : State) : State := settleIfReady (s.modCam fun c => { c with syncWindowAt := none })

def dropWatchDue (s : State) : Bool :=
  match s.cam.stage with
  | .dropWatch expiry => decide (s.cam.phase = .writing) && decide (expiry ≤ now s)
  | .none | .inProgress | .complete => false

/-- R112: the drop watch ends with READY still high. -/
def dropWatchExpiry (s : State) : State := completeWrite s

def writeTimeoutDue (s : State) : Bool := decide (s.cam.phase = .writing) && reached s.cam.writeTimeoutAt s

/-- R112: a write that timed out: CAMPWR off, COOLDOWN for 2048 ticks. -/
def coolDown (s : State) : State :=
  setCamPower false (s.modCam fun c =>
    { endWriting c with drain := false, phase := .cooldown, cooldownEnd := some (now s + 2048) })

/-- R112, R119: the write timeout. A drain ends with no fault and no flag. -/
def writeTimeout (s : State) : State :=
  match s.cam.frame with
  | none => coolDown s
  | some f =>
    let f1 := { f with flags := f.flags ||| flagWriteTimeout }
    frameOutcome true f1 (coolDown (s.modCam fun c => { c with frame := some f1 }))

def cooldownDue (s : State) : Bool := reached s.cam.cooldownEnd s

/-- R114: the cooldown end. -/
def cooldownEnd (s : State) : State :=
  let s1 := s.modCam fun c => { c with cooldownEnd := none }
  match s.cam.phase with
  | .cooldown => s1.modCam fun c => { c with phase := .off }
  | .waking | .preparing => setCamPower true s1
  | .off | .idleOn | .setting | .waitDue | .exposing | .writing => s1

def shutterHoldDue (s : State) : Bool := decide (s.cam.phase = .exposing) && reached s.cam.shutterAt s

/-- R111: the hold expires: SHUT and FOCUS are released and WRITING begins. -/
def shutterHoldExpiry (s : State) : State := beginWriting s

/-- The compare of one of the frame's moments, in the phases that await it. -/
def momentDue (at_ : Frame → Option Nat) (phases : List Phase) (s : State) : Bool :=
  match s.cam.frame with
  | some f => phases.contains s.cam.phase && reached (at_ f) s
  | none => false

def dueTimeDue (s : State) : Bool := momentDue (fun f => f.dueAt) [.setting, .waitDue] s

/-- R99, R111: how long SHUT is held: the bulb ticks, or 128 ticks for a TIMED frame. -/
def shutterHold (f : Frame) : Nat :=
  match f.exposure with
  | some e =>
    match e.mode with
    | .bulb => e.ticks
    | .timed => 128
  | none => 128

/-- R111, steps 2 to 4. -/
def openShutter (f : Frame) (s : State) : State :=
  let w := s.params.syncWindow
  s.modCam fun c =>
    { c with
      phase := .exposing
      shut := true
      focus := c.focus || decide (f.leads.focus = 0)
      shutterAt := some (now s + shutterHold f)
      syncWindowAt := if w = 0 then none else some (now s + w)
      frame := some { f with dueAt := none, focusAt := none, hasWindow := decide (w ≠ 0) } }

/-- R111: the due time. An exchange still open fails with SET_LATE first (R91). -/
def dueTime (s : State) : State :=
  let s1 := if exchangeOpen s then closeExchange (.failure .timeout) flagSetLate s else s
  match s1.cam.frame with
  | some f => openShutter f s1
  | none => s1

def focusLeadDue (s : State) : Bool := momentDue (fun f => f.focusAt) [.setting, .waitDue] s

/-- R110: FOCUS is asserted at d − focus lead. -/
def focusLead (s : State) : State :=
  s.modCam fun c => { c with focus := true, frame := c.frame.map fun f => { f with focusAt := none } }

/-! ## Metering and computation -/

/-- R54, R58, R108: the FRAME request of a frame or test shot. -/
def requestMetering (s : State) : State :=
  match s.cam.frame with
  | none => s
  | some f =>
    meterRequest .frame
      (match f.kind with
        | .run => .frame
        | .test => .test)
      (segmentAt s f.slot).rounding
      (s.modCam fun c =>
        { c with phase := .preparing, frame := some { f with meterAt := none, meteringOpen := true } })

def meterLeadDue (s : State) : Bool := momentDue (fun f => f.meterAt) [.waking] s

/-- R108: d − meter lead for a frame in WAKING. -/
def meterLead (s : State) : State := requestMetering s

/-- R55, R58: the metered value of a frame whose deadline was taken first: L_last, or the DARK floor when it is unset
(entry 30 for a run frame). -/
def lateMetered (s : State) : Metered :=
  { value := s.meter.lLast.getD (-104 + s.params.calibration), dark := false, late := true }

/-- R93, R99: the exposure record as the computation leaves it. -/
def recordOf (link : Bool) (e : Exposure) : Exposure := if link then e else finishWithoutLink e

/-- R89, R93, R110: the frame leaves the computation event: into SETTING with the exchange open, or into WAIT_DUE. -/
def leaveComputation (f : Frame) (link : Bool) (e : Exposure) (s : State) : State :=
  let focusNow := decide (f.leads.setting ≤ f.leads.focus)
  let s1 := s.modCam fun c =>
    { c with
      phase := if link then .setting else .waitDue
      focus := c.focus || focusNow
      frame := some { f with exposure := some (recordOf link e) } }
  if link then openExchange e s1 else s1

/-- R70, R80: the computation of a run frame: E_prev, the sticky set and the SATURATION alert. -/
def computeRun (f : Frame) (m : Metered) (s : State) : State :=
  let i := runInput s f
  let e := computeExposure i
  let flags := computeFlags i m f.factor
  let s1 := addSticky (flags &&& stickyOfComputation) (s.modRamp fun r => { r with ePrev := some e.eT })
  let s2 := if flags &&& (flagSatHi ||| flagSatLo) = 0 then s1 else raiseAlert .saturation s1
  leaveComputation { f with flags := flags } i.link e s2

/-- R81: the computation of a test shot, in its private state. -/
def computeTest (f : Frame) (m : Metered) (s : State) : State :=
  let i := testInput s m
  let e := computeExposure i
  leaveComputation { f with flags := computeFlags i m (stretch s), iEff := i.iEff, factor := stretch s } i.link e
    (s.modRamp fun r => { r with test := some { f := some i.f, ePrev := some e.eT } })

/-- R109: a frame that fails the readiness check is MISSED with cause CAMERA_WAKE. -/
def readinessFailure (f : Frame) (s : State) : State :=
  reportOutcome .missed .cameraWake false 0 f
    (setCamPower false (s.modCam fun c => { c with phase := unpoweredPhase c }))

def settingLeadDue (s : State) : Bool := momentDue (fun f => f.settingAt) [.preparing] s

/-- R108: the metering deadline, the readiness check and the computation. -/
def settingLead (s : State) : State :=
  match s.cam.frame with
  | none => s
  | some f =>
    let m := f.metered.getD (lateMetered s)
    let f1 := { f with metered := some m, meteringOpen := false, settingAt := none }
    let s1 := s.modCam fun c => { c with frame := some f1 }
    if s.cam.power && s.cam.ready then
      match f.kind with
      | .run => computeRun f1 m s1
      | .test => computeTest f1 m s1
    else readinessFailure f1 s1

/-! ## Handing -/

/-- R106: the leads a frame fixes at its handing. -/
def leadsOf (p : Params) : Leads :=
  { wake := p.wakeLead, meter := effectiveMeterLead p, setting := p.settingLead, focus := p.focusLead }

/-- R107: a frame as handed, with the moments that lie ahead registered. FOCUS has a moment of its own only when the focus
lead lies below the setting lead and above 0 (R110). A moment before run time 0 counts as 0 (entry 37). -/
def newFrame (kind : FrameKind) (number due slot iEff factor : Nat) (p : Params) : Frame :=
  let l := leadsOf p
  { kind := kind, number := number, due := due, slot := slot, leads := l, iEff := iEff, factor := factor
    syncSeen := false, hasWindow := false, meteringOpen := false, metered := none, exposure := none, flags := 0
    meterAt := some (due - l.meter)
    settingAt := some (due - l.setting)
    focusAt := if 0 < l.focus ∧ l.focus < l.setting then some (due - l.focus) else none
    dueAt := some due }

/-- R107: what the controller does next, by the phase at the handing. The other phases hold a frame or a drain, and no
handing finds them. -/
def handFrame (f : Frame) (s : State) : State :=
  match s.cam.phase with
  | .off => setCamPower true (s.modCam fun c => { c with phase := .waking, frame := some f })
  | .cooldown => s.modCam fun c => { c with phase := .waking, frame := some f }
  | .idleOn => requestMetering (s.modCam fun c => { c with frame := some f })
  | .waking | .preparing | .setting | .waitDue | .exposing | .writing => s

/-- `op` when its compare is due. -/
def serveIf (due : State → Bool) (op : State → State) (s : State) : State := if due s then op s else s

/-- R107: the moments already reached at the handing are taken in the handing event, after the handing itself. -/
def takeMoments (s : State) : State :=
  serveIf dueTimeDue dueTime (serveIf focusLeadDue focusLead (serveIf settingLeadDue settingLead
    (serveIf meterLeadDue meterLead s)))

/-- R121: an accepted test shot is handed as from OFF. -/
def beginTest (s : State) : State :=
  let f := newFrame .test 0 (now s + s.params.wakeLead) 0 ((segmentAt s 0).interval * stretch s) (stretch s) s.params
  takeMoments (handFrame f
    ((s.modCam fun c => { c with testRecord := { c.testRecord with state := .inFlight } }).modRamp fun r =>
      { r with test := some { f := none, ePrev := none } }))

end Sys2Proof.Machine
end

