-- ==== Sys2Proof/Machine/SequencerControl.lean ====
section
/-! DEFINITION. The sequencer's own events and requests: the beginning of a run (R27, R28), STOP (R30), preparation starts
(R38, R43 to R45), SET_CLOCK (R24), and leaving HOLD (R136 to R143). -/

namespace Sys2Proof.Machine

/-- What a request's owner answers: the state, the status and the reply's data. -/
abbrev Answer := State × Status × ReplyData

/-- A refusal changes no state apart from the reply (R193). -/
def refuse (status : Status) (s : State) : Answer := (s, status, .empty)

/-! ## The beginning of a run -/

/-- R28, R54: RUNNING, with the seed metering requested in the rounding mode of slot 0. R124: POWER arises at once when the
voltage state is CRITICAL. -/
def runBegin (s : State) : State :=
  powerCauseAtEntry (meterRequest .frame .seed (segmentAt s 0).rounding
    (s.modSeq fun q => { q with state := .running, awaitingSeed := true, armedStart := none }))

/-- R27: what an accepted START sets. -/
def startAccepted (s : State) : State :=
  ((s.modSeq fun q =>
      { q with
        runNumber := nextRun q.runNumber, frameCounter := 0, walkCount := 0, stopPending := false, ending := false
        current := none, lastDue := none, grid := none, prepRegistered := false, stretchPending := false
        awaitingSeed := false, armedStart := none }).modRamp fun r =>
      { r with seeded := false, f := 0, ePrev := none, sticky := 0 }).modCam fun c =>
    { c with settings := none, faultCount := 0 }

/-- R27: the run begins at once, or the sequencer enters ARMED and keeps the start time. -/
def beginOrArm (time : Option Word) (s : State) : State :=
  match time with
  | none => runBegin s
  | some t =>
    if t.toNat ≤ s.tb.seconds then runBegin s
    else powerCauseAtEntry (s.modSeq fun q => { q with state := .armed, armedStart := some t.toNat })

/-- R27. -/
def startRequest (time : Option Word) (s : State) : Answer :=
  match s.seq.state with
  | .armed | .running | .holding | .hold => refuse .badState s
  | .idle | .ended =>
    if testInFlight s then refuse .busy s
    else
      match programCheck s.params.overhead (activeBank s.prog) with
      | some (slot, reason) => (s, .badState, .check slot reason)
      | none =>
        if time.isSome ∧ s.tb.valid = false then refuse .badState s
        else (beginOrArm time (startAccepted s), .ok, .run (nextRun s.seq.runNumber))

/-- R28: the kept start time is reached in ARMED. -/
def armedStartDue (s : State) : Bool :=
  decide (s.seq.state = .armed) && (s.seq.armedStart.map fun t => decide (t ≤ s.tb.seconds)).getD false

/-- R24: SET_CLOCK; a start time held in ARMED is compared with the new clock at once (entry 35). -/
def setClock (seconds : Word) (ticks : Half) (s : State) : Answer :=
  let s1 := s.modTb fun t =>
    { t with seconds := seconds.toNat, ticks := min ticks.toNat 1023, valid := true }
  (if armedStartDue s1 then runBegin s1 else s1, if 1023 < ticks.toNat then .clamped else .ok,
    .clock s.tb.seconds s.tb.ticks s.tb.valid)

/-! ## STOP -/

/-- R30 in RUNNING. -/
def stopRunning (s : State) : State :=
  if s.seq.stopPending then s
  else if frameInFlight s then
    match s.cam.phase with
    | .waking | .preparing | .setting | .waitDue => enterEnded (cancelFrame .stop s)
    | .exposing | .writing | .off | .idleOn | .cooldown => s.modSeq fun q => { q with stopPending := true }
  else enterEnded s

/-- R30. -/
def stopRequest (s : State) : Answer :=
  match s.seq.state with
  | .idle | .ended => refuse .badState s
  | .armed | .hold => (enterEnded s, .ok, .empty)
  | .running => (stopRunning s, .ok, .empty)
  | .holding => (s.modSeq fun q => { q with ending := true }, .ok, .empty)

/-! ## HOLD -/

/-- R125. -/
def holdRequest (s : State) : Answer :=
  match s.seq.state with
  | .idle | .ended => refuse .badState s
  | .armed =>
    let s1 := causeArises .host s
    (s1, .ok, .holdState s1.seq.state false)
  | .running =>
    if s.seq.stopPending then refuse .badState s
    else
      let s1 := causeArises .host s
      (s1, .ok, .holdState s1.seq.state false)
  | .holding | .hold =>
    if s.seq.state = .holding ∧ s.seq.ending = true then refuse .badState s
    else if (latched s).isNone then (offerLatch .host s, .ok, .holdState s.seq.state true)
    else refuse .busy s

/-! ## Preparation starts -/

/-- R43: the preparation start of the grid's next frame has come. -/
def preparationDue (s : State) : Bool :=
  match s.seq.grid with
  | some g =>
    decide (s.seq.state = .running) && s.seq.prepRegistered && !s.seq.stopPending &&
    ((decide (s.cam.phase = .off) && decide (g.nextDue ≤ now s + s.params.wakeLead)) ||
      decide (g.nextDue ≤ now s + effectiveMeterLead s.params))
  | none => false

/-- R34, R44: a frame due at `due` is numbered: the frame counter, the walk count and the last due. -/
def numberFrame (due : Nat) (s : State) : State :=
  s.modSeq fun q =>
    { q with frameCounter := advanceFrames q.frameCounter 1, walkCount := 0, lastDue := some due }

/-- R44: the next frame's index becomes one more, and its preparation start is registered. -/
def nextIndex (s : State) : State :=
  s.modSeq fun q =>
    { q with grid := q.grid.map fun g => { g with index := g.index + 1 }, prepRegistered := true }

/-- R44, R107: a frame is numbered and handed. -/
def prepareFrame (slot due iEff factor : Nat) (s : State) : State :=
  let s1 := numberFrame due s
  takeMoments (handFrame (newFrame .run s1.seq.frameCounter due slot iEff factor s.params) s1)

/-- R45: MISSED with cause OVERRUN. -/
def missOverrun (slot : Nat) (g : Grid) (s : State) : State :=
  let s1 := nextIndex (numberFrame g.nextDue s)
  logWrite
    (frameRecord s1 .missed .overrun (newFrame .run s1.seq.frameCounter g.nextDue slot g.iEff g.factor s.params) 0) s1

/-- R38: the kinds evaluated at a preparation start. -/
def endsWithoutFrame (g : Segment) : Bool :=
  match g.term with
  | .duration | .clock | .levelBelow => true
  | .frames | .lightBelow | .lightAbove | .forever => false

/-- R38, R44, R45: a preparation start: the battery sample, then the frame is MISSED, dropped, or numbered and handed. The
BATTERY request and the frame's reach the converter together, and either may start (DESIGN CHOICE, entry 42). -/
def preparationStart (s : State) : State :=
  let s1 := meterRequest .battery .power .down s
  match s1.seq.grid, s1.seq.current with
  | some g, some c =>
    if frameInFlight s1 then missOverrun c.slot g s1
    else
      let seg := segmentAt s1 c.slot
      let s2 := if endsWithoutFrame seg then noteEvaluation c.slot s1 else s1
      if endsWithoutFrame seg && currentEnds s2 then walkNext c.slot s2
      else prepareFrame c.slot g.nextDue g.iEff g.factor (nextIndex s2)
  | _, _ => s1

/-! ## Leaving HOLD -/

/-- R137: the first continuation due and its index: the anchor when no frame of the grid has been numbered, else the one
after the last due. -/
def continuationBase (g : Grid) (lastDue : Option Nat) : Nat × Nat :=
  if g.index = 0 then (g.anchor, 0) else (lastDue.getD g.anchor, 1)

/-- R137: how many of the dues first, first + step, … lie before the bound. -/
def duesBefore (first step bound : Nat) : Nat := if first < bound then (bound - 1 - first) / step + 1 else 0

/-- R137: the continuation grid, past the c dues that fell while parked. -/
def continuationGrid (s : State) (g : Grid) : Grid :=
  let base := continuationBase g s.seq.lastDue
  let iR := g.interval * stretch s
  { anchor := base.1
    index := base.2 + duesBefore (base.1 + base.2 * iR) iR (now s + s.params.wakeLead)
    interval := g.interval
    factor := stretch s }

/-- R137: the number of dues lost, and the last of them. -/
def duesLost (s : State) (g : Grid) : Nat :=
  (continuationGrid s g).index - (continuationBase g s.seq.lastDue).2

/-- R174: the GAP record. The slot at the cause is present whenever a grid is (entry 33). -/
def gapRecord (s : State) (h : HoldData) (count : Nat) : LogRecord :=
  { outcome := .gap, run := s.seq.runNumber, frame := advanceFrames s.seq.frameCounter 1
    segment := h.causeSlot.getD 0
    flags := flagIf h.entryInvalid flagClockInvalid ||| flagIf (1 < stretch s) flagStretched
    cause := .gap h.cause, dueSeconds := h.entrySeconds, dueTicks := h.entryTicks, lAvg := none, eT := none, mode := none
    value := count, gain := none, residual := none, level := s.pow.budgetLevel }

/-- R137: the continuation grid laid and the GAP record taken, when the run has a grid. -/
def takeGap (h : HoldData) (s : State) : State :=
  match s.seq.grid with
  | none => s
  | some g =>
    let grid := continuationGrid s g
    let c := duesLost s g
    let s1 := if c = 0 then s else logWrite (gapRecord s h c) s
    s1.modSeq fun q =>
      { q with
        frameCounter := advanceFrames q.frameCounter c
        grid := some grid
        lastDue := if c = 0 then q.lastDue else some (grid.anchor + (grid.index - 1) * grid.iEff) }

/-- R136: the GAP record's first number and count, for the reply. -/
def gapReply (s : State) : Option (Nat × Nat) :=
  match s.seq.grid with
  | some g => if duesLost s g = 0 then none else some (advanceFrames s.seq.frameCounter 1, duesLost s g)
  | none => none

/-- R138 step 2: the held segment is current again with the record's entry. -/
def restoreSegment (h : HoldData) (s : State) : State :=
  s.modSeq fun q =>
    { q with
      current :=
        match h.resumeSlot, h.times with
        | some slot, some (t, w0, span) =>
          some
            { slot := slot
              entry := { runTime := t, w0 := w0, span := span, exposureCount := h.exposureCount, debounce := h.debounce } }
        | _, _ => q.current }

/-- R139: a trapped frame is one in SETTING, WAIT_DUE or EXPOSING at the demand (R127). -/
def trapped (h : HoldData) : Bool :=
  match h.trapPhase with
  | some .setting | some .waitDue | some .exposing => true
  | some .off | some .idleOn | some .waking | some .preparing | some .writing | some .cooldown | none => false

/-- R139: the retry frame, due at now + wake lead; the next due is the first continuation due strictly later. Its
preparation start asks for a battery sample (entry 34). -/
def retryFrame (slot : Nat) (g : Grid) (s : State) : State :=
  let d := now s + s.params.wakeLead
  let s1 := if g.nextDue ≤ d then nextIndex s else s
  prepareFrame slot d g.iEff g.factor (meterRequest .battery .power .down s1)

/-- R138, R139: a resume point not marked fresh: the termination is evaluated, and the segment goes on or is left. With the
state comes the number of the retry frame, when one is shot (R136), whatever becomes of it in the event. -/
def continueHeld (retry : Bool) (h : HoldData) (s : State) : State × Option Nat :=
  let s1 := restoreSegment h s
  match s1.seq.current with
  | none => (s1, none)
  | some c =>
    let s2 := noteEvaluation c.slot s1
    if currentEnds s2 then (walkNext c.slot s2, none)
    else
      let s3 := s2.modSeq fun q => { q with prepRegistered := true }
      match s3.seq.grid with
      | some g =>
        if retry && trapped h then (retryFrame c.slot g s3, some (advanceFrames s3.seq.frameCounter 1)) else (s3, none)
      | none => (s3, none)

/-- The due run time of the next frame of the grid that stands, for replies: in HOLDING and HOLD that of the frozen grid (R32,
R126). After a RESUME that ends with no grid there is none, which R136 leaves open (DESIGN CHOICE, entry 45). -/
def nextDueReply (s : State) : Option Nat := s.seq.grid.map fun g => g.nextDue

/-- R137 to R141: leaving HOLD with no second cause, and the number of the retry frame. -/
def leaveHold (retry : Bool) (h : HoldData) (s : State) : State × Option Nat :=
  let s1 := s.modSeq fun q => { q with hold := none, prepRegistered := false, stretchPending := false }
  match h.heldFrom with
  | .armed =>
    let s2 := s1.modSeq fun q => { q with state := .armed }
    (if armedStartDue s2 then runBegin s2 else powerCauseAtEntry s2, none)
  | .running =>
    let s2 := takeGap h (s1.modSeq fun q => { q with state := .running })
    if h.fresh then (walkFrom (h.resumeSlot.getD 0) h.exposureCount s2, none) else continueHeld retry h s2

/-- R136: the second cause, the latched one, or POWER while the voltage state is CRITICAL. -/
def secondCause (h : HoldData) (s : State) : Option HoldCause :=
  match h.latch with
  | some c => some c
  | none => if s.pow.voltage = .critical then some .power else none

/-- R136: the record of a re-entry. -/
def reentryRecord (cause : HoldCause) (h : HoldData) (s : State) : HoldData :=
  { h with
    cause := cause, hostRequested := decide (cause = .host), latch := none, f := s.ramp.f, ePrev := s.ramp.ePrev
    entryRunTime := now s, entrySeconds := s.tb.seconds, entryTicks := s.tb.ticks, entryInvalid := !s.tb.valid }

/-- R136: an accepted RESUME. -/
def resumeRun (retry : Bool) (h : HoldData) (s : State) : State × ReplyData :=
  let s1 := (s.modCam fun c => { c with faultCount := 0 }).modSeq fun q => { q with walkCount := 0 }
  match secondCause h s1 with
  | some cause =>
    (raiseAlert .holdEntered (s1.modSeq fun q => { q with hold := some (reentryRecord cause h s1) }), .reentered cause)
  | none =>
    let r := leaveHold retry h s1
    (r.1, .resumed (if h.heldFrom = .armed then none else gapReply s1) r.2 (nextDueReply r.1))

/-- R136: RESUME's mode, RETRY 0 (true) or SKIP 1 (false). -/
def resumeModeOf (mode : Byte) : Option Bool := if mode = 0 then some true else if mode = 1 then some false else none

/-- R136: the examination of RESUME. -/
def resumeRequest (mode : Byte) (s : State) : Answer :=
  match s.seq.state, s.seq.hold with
  | .hold, some h =>
    match resumeModeOf mode with
    | none => (s, .badField, .field 1)
    | some retry =>
      if h.cause = .power ∧ s.pow.voltage = .critical then refuse .badState s
      else
        let r := resumeRun retry h s
        (r.1, .ok, r.2)
  | _, _ => refuse .badState s

/-- R142: the expiry of the critical-recovery timer. -/
def recoveryDue (s : State) : Bool := reached (s.pow.recovery.map fun t => t + 614400) s

/-- R142, R143: the timer stops, and auto-resume is taken when its three conditions hold. -/
def recoveryExpiry (s : State) : State :=
  let s1 := s.modPow fun p => { p with recovery := none }
  match s1.seq.state, s1.seq.hold with
  | .hold, some h =>
    if s1.params.autoResume = 1 ∧ h.cause = .power ∧ h.hostRequested = false then
      raiseAlert .resumed (resumeRun false h s1).1
    else s1
  | _, _ => s1

/-! ## The resume record's requests -/

/-- R132. -/
def readResumeRecord (s : State) : Answer :=
  match s.seq.state, s.seq.hold with
  | .hold, some h =>
    (s, .ok, .resumeRecord
      { data := h
        anchor := s.seq.grid.map fun g => g.anchor
        nextIndex := s.seq.grid.map fun g => g.index
        lastDue := if s.seq.grid.isSome then s.seq.lastDue else none
        gridInterval := s.seq.grid.map fun g => g.interval })
  | _, _ => refuse .badState s

/-- R134 step 4: the count a FRAMES n segment takes, at most n − 1. -/
def resumeCount (g : Segment) (count : Nat) : Nat :=
  if g.term = .frames then min count (g.termArg.toNat - 1) else count

/-- R134. The reply has no data, CLAMPED too: R134 names none (DEDUCED, entry 46). -/
def setResumePoint (slot : Byte) (count : Half) (s : State) : Answer :=
  match s.seq.state, s.seq.hold with
  | .hold, some h =>
    if h.heldFrom = .armed then refuse .badState s
    else
      match slotOf (activeBank s.prog) slot.toNat with
      | none => (s, .badField, .field 0)
      | some g =>
        (s.modSeq fun q =>
          { q with
            hold := some
              { h with
                resumeSlot := some slot.toNat, fresh := true, exposureCount := resumeCount g count.toNat, debounce := 0
                times := none } },
          if resumeCount g count.toNat = count.toNat then .ok else .clamped, .empty)
  | _, _ => refuse .badState s

/-! ## COMMIT -/

/-- R14 to R19: a COMMIT that has passed its examination with no frame in flight, or outside RUNNING. -/
def commitNow (s : State) : State :=
  match s.seq.state with
  | .running =>
    let s1 := raiseAlert .commitDone (swapBanks s)
    if s.seq.current.isSome ∧ s.seq.awaitingSeed = false then walkFrom 0 0 s1 else s1
  | .hold => (swapBanks s).modSeq fun q => { q with hold := q.hold.map resumeAtZero }
  | .idle | .ended | .armed | .holding => swapBanks s

/-- R14. -/
def commitRequest (s : State) : Answer :=
  if locked s then refuse .locked s
  else if s.prog.commitPending then refuse .pending s
  else if s.seq.state = .holding then refuse .badState s
  else if (s.seq.state = .idle ∨ s.seq.state = .ended) ∧ testInFlight s = true then refuse .busy s
  else
    match programCheck s.params.overhead (stagedBank s.prog) with
    | some (slot, reason) => (s, .invalidProgram, .check slot reason)
    | none =>
      if s.seq.state = .running ∧ frameInFlight s = true then
        (s.modProg fun p => { p with commitPending := true }, .ok, .commit true (stagedName s.prog))
      else (commitNow s, .ok, .commit false (stagedName s.prog))

/-! ## TEST_SHOT -/

/-- R121. -/
def testShotRequest (s : State) : Answer :=
  match s.seq.state with
  | .armed | .running | .holding | .hold => refuse .badState s
  | .idle | .ended =>
    if testInFlight s ∨ s.cam.phase = .cooldown then refuse .busy s
    else
      match programCheck s.params.overhead (activeBank s.prog) with
      | some (slot, reason) => (s, .badState, .check slot reason)
      | none => (beginTest s, .ok, .empty)

end Sys2Proof.Machine
end

