-- ==== Sys2Proof/Machine/MeterControl.lean ====
section
/-! DEFINITION. The meter's jobs: light samples and averages (R52 to R54), the end of a job and the delivery of its result
(R50, R51, R55 to R60), and what the power monitor does with a battery, solar or temperature result (R62 to R64, R142,
R148 to R150, R156, R163). -/

namespace Sys2Proof.Machine

/-! ## Light samples -/

/-- A light sample: its value in steps, whether it is DARK, whether it was taken on the HI range (R52, R53). -/
structure Sample where
  value : Int
  dark : Bool
  hi : Bool
  deriving DecidableEq, Repr

/-- R53: the value of a code c taken on LO or HI. -/
def sampleOf (cal : Int) (c : Code) (hi : Bool) : Sample :=
  if c = 0 then { value := -104 + cal, dark := true, hi := hi }
  else { value := log16 c.toNat - (if hi then 96 else 0) + cal, dark := false, hi := hi }

/-- R52: one sample from the codes of its one or two conversions; none while a conversion is missing. -/
def lightSample (cal : Int) : List Code → Option (Sample × List Code)
  | [] => none
  | lo :: rest =>
    if 64 ≤ lo.toNat then some (sampleOf cal lo false, rest)
    else
      match rest with
      | [] => none
      | hi :: rest' =>
        some (if hi.toNat = 4095 then sampleOf cal lo false else sampleOf cal hi true, rest')

/-- R54: n samples back to back, with the codes left over. -/
def lightSamples (cal : Int) : Nat → List Code → Option (List Sample × List Code)
  | 0, codes => some ([], codes)
  | n + 1, codes =>
    match lightSample cal codes with
    | none => none
    | some (x, rest) =>
      match lightSamples cal n rest with
      | none => none
      | some (xs, left) => some (x :: xs, left)

/-- R54: the average of the samples in a rounding mode. -/
def averageOf (mode : Rounding) (xs : List Sample) : Int := rnd mode ((xs.map fun x => x.value).sum) xs.length

/-- R54: the DARK mark: every sample was DARK. -/
def allDark (xs : List Sample) : Bool := xs.all fun x => x.dark

/-- R51: the samples taken on the HI range. -/
def hiCount (xs : List Sample) : Nat := xs.countP fun x => x.hi

/-! ## Results of FRAME and HOST jobs -/

/-- R55, R69: a frame metering accepted as fresh. -/
def acceptFrame (f : Frame) (avg : Int) (dark : Bool) (s : State) : State :=
  (((s.modMeter fun m => { m with lLast := some avg }).modCam fun c =>
      { c with frame := some { f with metered := some { value := avg, dark := dark, late := false }, meteringOpen := false } }).modRamp
    (filterUpdate (segmentAt s f.slot) avg))

/-- R58, R81: a test metering accepted: it seeds the private filter and does not set L_last. -/
def acceptTest (f : Frame) (avg : Int) (dark : Bool) (s : State) : State :=
  (s.modCam fun c =>
      { c with frame := some { f with metered := some { value := avg, dark := dark, late := false }, meteringOpen := false } }).modRamp
    fun r => { r with test := some { f := some (16 * avg), ePrev := none } }

/-- R57, R69: the seed accepted: L_last, the filter, and the walk to slot 0, or the drain's end at the end of the event. -/
def acceptSeed (avg : Int) (s : State) : State :=
  let s1 := ((s.modMeter fun m => { m with lLast := some avg }).modRamp fun r =>
    { r with seeded := true, f := 16 * avg }).modSeq fun q => { q with awaitingSeed := false }
  if s.seq.state = .running then walkFrom 0 0 s1 else s1

/-- R55 to R58: who accepts the result of a FRAME job. What is not accepted is discarded. -/
def deliverFrame (owner : Owner) (avg : Int) (dark : Bool) (s : State) : State :=
  match owner with
  | .frame =>
    match s.cam.frame with
    | some f =>
      if f.kind = .run ∧ s.cam.phase = .preparing ∧ f.meteringOpen = true then acceptFrame f avg dark s else s
    | none => s
  | .test =>
    match s.cam.frame with
    | some f =>
      if f.kind = .test ∧ s.cam.phase = .preparing ∧ f.meteringOpen = true then acceptTest f avg dark s else s
    | none => s
  | .seed =>
    if s.seq.awaitingSeed = true ∧ (s.seq.state = .running ∨ s.seq.state = .holding) then acceptSeed avg s else s
  | .power | .host => s

/-- R60, R61: METER_NOW completes, if one is executing; its reply goes out. -/
def deliverHost (data : ReplyData) (s : State) : State :=
  if s.line.executing = some .meterNow ∧ s.line.reply = none then
    s.modLine fun l => { l with reply := some (replyTo .meterNow .ok data) }
  else s

/-! ## Battery, solar and temperature results -/

/-- R148, R150: the voltage state and the below-critical mark after a sample v. -/
def nextVoltage (p : Params) (q : Power) (v : Nat) : Voltage × Bool :=
  if q.reEvaluate then
    if p.vLow ≤ v then (.normal, false) else (.low, decide (v < p.vCrit))
  else
    match q.voltage with
    | .normal => if v < p.vLow then (.low, decide (v < p.vCrit)) else (.normal, false)
    | .low =>
      if v < p.vCrit then (if q.belowCritical then (.critical, false) else (.low, true))
      else if v < p.vLow + p.hysteresis then (.low, false)
      else (.normal, false)
    | .critical => if p.vCrit + p.hysteresis ≤ v then (.low, false) else (.critical, false)

/-- R149 step 1. -/
def voltageAlerts (old new : Voltage) (s : State) : State :=
  match old, new with
  | .normal, .low => raiseAlert .batteryLow s
  | .low, .critical => raiseAlert .batteryCritical s
  | _, _ => s

/-- R149 step 2. -/
def voltageToSequencer (old new : Voltage) (s : State) : State :=
  match old, new with
  | .critical, .low => discardLatchedPower s
  | .low, .critical => causeArises .power s
  | _, _ => s

/-- R142: a sample v drives the critical-recovery timer, in HOLD with cause POWER. -/
def recoverySample (v : Nat) (s : State) : State :=
  match s.seq.state, s.seq.hold with
  | .hold, some h =>
    if h.cause = .power then
      if s.params.vCrit + s.params.hysteresis ≤ v then
        if s.pow.recovery.isNone then s.modPow fun p => { p with recovery := some (now s) } else s
      else s.modPow fun p => { p with recovery := none }
    else s
  | _, _ => s

/-- R146, R149: a battery sample: the latest value, the voltage state with what a change hands on, the recovery timer. The
heater's eligibility is formed at the end of the event (entry 14). -/
def batterySample (v : Nat) (s : State) : State :=
  let n := nextVoltage s.params s.pow v
  let s1 := s.modPow fun p =>
    { p with battery := some v, voltage := n.1, belowCritical := n.2, reEvaluate := false }
  recoverySample v
    (if n.1 = s.pow.voltage then s1
      else settleLevels (voltageToSequencer s.pow.voltage n.1 (voltageAlerts s.pow.voltage n.1 s1)))

/-- R156: a solar credit. -/
def solarCredit (ma : Nat) (s : State) : State :=
  settleLevels (s.modPow fun p =>
    { p with solar := some ma, account := min (p.account + ma * 64) (accountTop s.params) })

/-- R163: the duty of a temperature T. -/
def dutyOf (p : Params) (t : Int) : Nat := (clampInt 0 p.dutyMax ((p.slope : Int) * (p.tOn - t) / 4)).toNat

/-- R163. -/
def temperatureResult (t : Int) (s : State) : State :=
  s.modPow fun p =>
    { p with temperature := some t, pendingDuty := if p.eligible then dutyOf s.params t else p.pendingDuty }

/-! ## The end of a job -/

/-- The result of a job (R51), with the number of its conversions. -/
inductive JobResult where
  | light (samples : List Sample) (conversions : Nat)
  | single (code : Code)
  deriving DecidableEq, Repr

/-- The result that a list of codes gives a class's job; none while a conversion is missing (R48). -/
def jobResult (c : MeterClass) (n : Nat) (cal : Int) (codes : List Code) : Option JobResult :=
  match c with
  | .frame | .host =>
    (lightSamples cal (2 ^ n) codes).map fun r => .light r.1 (codes.length - r.2.length)
  | .battery | .temperature | .solar =>
    match codes with
    | code :: _ => some (.single code)
    | [] => none

/-- R48: each conversion takes 2 ticks. -/
def jobTicks : JobResult → Nat
  | .light _ n => 2 * n
  | .single _ => 2

/-- R51: the result delivered to the owner. `cal` and the sample count are those the job read at its start (R50). -/
def deliver (c : MeterClass) (job : JobRequest) (cal : Int) (r : JobResult) (s : State) : State :=
  match c, r with
  | .frame, .light xs _ => deliverFrame job.owner (averageOf job.rounding xs) (allDark xs) s
  | .host, .light xs _ =>
    deliverHost (.metering (averageOf job.rounding xs) (allDark xs) xs.length (hiCount xs) cal) s
  | .battery, .single code => batterySample (code.toNat * 4) s
  | .solar, .single code => solarCredit (code.toNat / 2) s
  | .temperature, .single code => temperatureResult ((code.toNat : Int) - 800) s
  | _, _ => s

/-- The running job with its class, as the codes end it now: enough codes, and their conversions made (entry 25). -/
def jobEnding (codes : List Code) (s : State) : Option (MeterClass × JobRequest × Int × JobResult) :=
  match runningClass s.meter with
  | none => none
  | some c =>
    match queueSlot s.meter c with
    | .running job start n cal =>
      match jobResult c n cal codes with
      | some r => if start + jobTicks r ≤ now s then some (c, job, cal, r) else none
      | none => none
    | .empty | .waiting _ => none

/-- R50, R51: a job ends: its slot is EMPTY and its result is delivered. The converter is granted at the end of the event,
after all that the delivery brought about (`serveMeter`). -/
def endJob (c : MeterClass) (job : JobRequest) (cal : Int) (r : JobResult) (s : State) : State :=
  deliver c job cal r (s.modMeter fun m => setQueueSlot m c .empty)

end Sys2Proof.Machine
end

