-- ==== Sys2Proof/Machine/EndEvent.lean ====
section
/-! DEFINITION. What is formed again at the end of an event (entry 14): the keep-on test (R117), reaching HOLD (R129), the
heater's eligibility (R162), the converter (R49, R50), the core state (R161), the critical-recovery timer (R142) and ATN (R199). -/

namespace Sys2Proof.Machine

/-- R162: the heater's conditions. -/
def heaterConditions (s : State) : Bool :=
  (decide (s.seq.state = .running) || decide (s.seq.state = .armed)) &&
  decide (s.params.heaterMinLevel ≤ s.pow.budgetLevel) && decide (s.pow.voltage = .normal)

/-- R162: the smallest multiple of 2048 that is not earlier than a run time (entry 28). -/
def periodFrom (t : Nat) : Nat := (t + 2047) / 2048 * 2048

/-- R162: the heater becomes eligible: a temperature request at once, the next compare 16,384 ticks on, both duties 0. -/
def heaterGained (s : State) : State :=
  meterRequest .temperature .power .down (s.modPow fun p =>
    { p with
      eligible := true, duty := 0, pendingDuty := 0
      temperatureAt := some (now s + 16384), heatPeriodAt := some (periodFrom (now s)), heatOffAt := none })

/-- R162: the heater becomes not eligible. -/
def heaterLost (s : State) : State :=
  setHeat false (s.modPow fun p =>
    { p with
      eligible := false, duty := 0, pendingDuty := 0, temperatureAt := none, heatPeriodAt := none, heatOffAt := none })

/-- R162: eligibility formed again. -/
def heaterForm (s : State) : State :=
  if heaterConditions s = s.pow.eligible then s
  else if heaterConditions s then heaterGained s
  else heaterLost s

/-- The conditions of R161 that an event can change. The third, a computation requested and not yet taken, never stands
between events: a computation is taken in the event that requests it (entry 13). -/
def coreConditions (s : State) : Bool × Bool × Bool :=
  (decide (s.line.state = .dormant) && s.line.executing.isNone && s.line.held.isNone,
    (runningClass s.meter).isNone, decide (s.cam.phase = .off) || decide (s.cam.phase = .idleOn))

/-- R161. -/
def coreOf (s : State) : CoreState := if coreConditions s = (true, true, true) then .doze else .run

/-- R154, R161: the core state set; a change makes an accrual. -/
def setCore (c : CoreState) (s : State) : State :=
  if s.pow.core = c then s else accrual (s.modPow fun p => { p with core := c })

/-- R161: the core state is formed again at the end of an event that changed one of the conditions. -/
def coreForm (s0 s : State) : State := if coreConditions s0 = coreConditions s then s else setCore (coreOf s) s

/-- R117: the keep-on conditions tested again in IDLE_ON, with the levels formed after the accrual of a change. -/
def keepOnTest (s : State) : State :=
  if s.cam.phase = .idleOn ∧ keepOnHolds s = false then settleLevels (keepOnOff s) else s

/-- R142: the timer runs only in HOLD with cause POWER. -/
def recoveryForm (s : State) : State :=
  if s.seq.state = .hold ∧ (s.seq.hold.map fun h => h.cause) = some .power then s
  else s.modPow fun p => { p with recovery := none }

/-- R162: the levels that the accrual of a core change leaves can take the heater's eligibility away. They cannot give it,
since an accrual never raises the account. -/
def heaterDrop (s : State) : State := if s.pow.eligible && !heaterConditions s then heaterLost s else s

/-- The end of an event that began in `s0` and has come to `s`. The heater's request of R162 is with the meter before the
converter is granted (entry 14). -/
def endEvent (s0 s : State) : State :=
  formAtn (recoveryForm (heaterDrop (coreForm s0 (serveMeter s0 (heaterForm (holdCheck (keepOnTest s)))))))

/-- An event that is taken when its occasion stands, and has no effect otherwise (entries 2 and 3). -/
def event (occasion : Bool) (op : State → State) (s : State) : State := if occasion then endEvent s (op s) else s

end Sys2Proof.Machine
end

