-- ==== Sys2Proof/Machine/PowerControl.lean ====
section
/-! DEFINITION. The power monitor's requests and compares: SET_CHARGE (R157), GET_POWER (R166), the periodic compare (R146),
the heater's compares (R162, R164). -/

namespace Sys2Proof.Machine

/-- R157. -/
def setCharge (charge : Half) (s : State) : Answer :=
  let top := accountTop s.params
  let s1 := settleLevels ((accrual s).modPow fun p =>
    { p with account := min (charge.toNat * 3600) top, remainder := 0 })
  (s1, if top < charge.toNat * 3600 then .clamped else .ok, .account s1.pow.account)

/-- R164: the period index j. -/
def periodIndex (t : Nat) : Nat := t / 2048 % 8

/-- R166. -/
def powerStatus (s : State) : PowerStatus :=
  { voltage := s.pow.voltage, belowCritical := s.pow.belowCritical, reEvaluate := s.pow.reEvaluate
    battery := s.pow.battery, vLow := s.params.vLow, vCrit := s.params.vCrit, hysteresis := s.params.hysteresis
    solar := s.pow.solar, temperature := s.pow.temperature, account := s.pow.account, remainder := s.pow.remainder
    lastAccrual := s.pow.lastAccrual, draw := s.pow.draw, capacity := s.params.capacity, perMille := perMille s
    chargeLevel := s.pow.chargeLevel, budgetLevel := s.pow.budgetLevel, stretch := stretch s
    keepOn := keepOnPermission s, core := s.pow.core, eligible := s.pow.eligible, duty := s.pow.duty
    pendingDuty := s.pow.pendingDuty, periodIndex := periodIndex (now s), heat := s.pow.heat
    recovery := s.pow.recovery }

def periodicDue (s : State) : Bool := decide (s.pow.periodicAt ≤ now s)

/-- The first multiple of 65,536 after a run time (R146). -/
def nextPeriodic (t : Nat) : Nat := (t / 65536 + 1) * 65536

/-- R146: BATTERY and SOLAR requests and a periodic accrual (R154). The two reach the converter together, and
either may start (DESIGN CHOICE, entry 42). -/
def periodicCompare (s : State) : State :=
  accrual (meterRequest .solar .power .down (meterRequest .battery .power .down
    (s.modPow fun p => { p with periodicAt := nextPeriodic (now s) })))

def temperatureDue (s : State) : Bool := s.pow.eligible && reached s.pow.temperatureAt s

/-- R162: one TEMPERATURE request every 16,384 ticks. -/
def temperatureCompare (s : State) : State :=
  meterRequest .temperature .power .down (s.modPow fun p =>
    { p with temperatureAt := p.temperatureAt.map fun t => t + 16384 })

/-- R164: j with its three bits reversed. -/
def rev3 (j : Nat) : Nat := j % 2 * 4 + j / 2 % 2 * 2 + j / 4 % 2

/-- R164: the on-slots of a period. -/
def onSlots (duty j : Nat) : Nat := if rev3 j < duty % 8 then duty / 8 + 1 else duty / 8

def heaterPeriodDue (s : State) : Bool := s.pow.eligible && reached s.pow.heatPeriodAt s

/-- R164: a period start. -/
def heaterPeriodStart (s : State) : State :=
  let n := onSlots s.pow.pendingDuty (periodIndex (now s))
  let start := now s / 2048 * 2048
  setHeat (decide (1 ≤ n)) (s.modPow fun p =>
    { p with
      duty := p.pendingDuty
      heatPeriodAt := some (start + 2048)
      heatOffAt := if 1 ≤ n ∧ n ≤ 31 then some (start + n * 64) else none })

def heaterOffDue (s : State) : Bool := reached s.pow.heatOffAt s

/-- R164: the off edge. -/
def heaterOffEdge (s : State) : State := setHeat false (s.modPow fun p => { p with heatOffAt := none })

end Sys2Proof.Machine
end

