-- ==== Sys2Proof/Machine/Requests.lean ====
section
/-! DEFINITION. The requests of the program store (R8 to R12, R20), the frame log (R178 to R181), the parameters (R197,
R198) and the read-backs (R192, R195, R200); and the request of a command slot examined by its owner (R190). -/

namespace Sys2Proof.Machine

/-! ## Program store -/

/-- R8, R9, R10. -/
def putSegment (slot : Byte) (r : SegmentRecord) (s : State) : Answer :=
  if locked s then refuse .locked s
  else if s.prog.commitPending then refuse .pending s
  else
    match checkSegment slot r with
    | .error field => (s, .badField, .field field)
    | .ok g =>
      (s.modProg fun p => setStaged p ((stagedBank p).setIfInBounds slot.toNat (some g)),
        if clampedFields r g = 0 then .ok else .clamped, .written (stagedName s.prog) (clampedFields r g))

/-- R11: the bank selector, ACTIVE 0 or STAGED 1 (R194). -/
def selectedBank (p : ProgramStore) (selector : Byte) : Option BankName :=
  if selector = 0 then some p.active else if selector = 1 then some (stagedName p) else none

/-- R11. -/
def readSegment (slot selector : Byte) (s : State) : Answer :=
  if 24 ≤ slot.toNat then (s, .badField, .field 0)
  else
    match selectedBank s.prog selector with
    | none => (s, .badField, .field 1)
    | some bank => (s, .ok, .content bank (slotOf (bankOf s.prog bank) slot.toNat))

/-- R12. -/
def clearStaged (s : State) : Answer :=
  if locked s then refuse .locked s
  else if s.prog.commitPending then refuse .pending s
  else (s.modProg fun p => setStaged p Bank.empty, .ok, .bank (stagedName s.prog))

/-- R20. -/
def lockProgram (s : State) : Answer := (s.modProg fun p => { p with lock := true }, .ok, .empty)

/-! ## Frame log -/

/-- R178. -/
def readFrames (s : State) : Answer :=
  (s, .ok, .frames s.log.records.length s.log.overwritten (s.log.records.take 2))

/-- R179: the oldest min(n, held) records removed. -/
def releaseRecords (size n : Nat) (l : FrameLog) : FrameLog :=
  let k := min n l.records.length
  { l with
    records := l.records.drop k
    readIndex := (l.readIndex + k) % size
    released := counterAdd l.released k }

/-- R179. -/
def releaseFrames (count : Half) (s : State) : Answer :=
  let s1 := s.modLog (releaseRecords s.params.logSize count.toNat)
  (s1, if count.toNat ≤ s.log.records.length then .ok else .clamped,
    .released (min count.toNat s.log.records.length) s1.log.records.length s1.log.overwritten)

/-- R180. -/
def getLogInfo (s : State) : Answer :=
  (s, .ok, .logInfo s.params.logSize s.log.records.length s.log.written s.log.released s.log.overwritten)

/-! ## Parameters -/

/-- R160: the budget level whose stretch factor a parameter is. -/
def stretchLevel : ParamId → Option Nat
  | .stretch0 => some 0
  | .stretch1 => some 1
  | .stretch2 => some 2
  | .stretch3 => some 3
  | .sampleCount | .calibration | .k | .overhead | .bulbThreshold | .linkPresent | .wakeLead | .meterLead
  | .settingLead | .focusLead | .syncWindow | .writeTimeout | .keepOnThreshold | .faultLimit | .autoResume
  | .capacity | .runCurrent | .dozeCurrent | .cameraCurrent | .heaterCurrent | .frameCharge | .vLow | .vCrit
  | .hysteresis | .heaterMinLevel | .tOn | .slope | .dutyMax | .logSize | .alertMask => none

/-- Step 4 of R197: the owner's test, for the frame overhead (R79) and the log size (R181). -/
def ownerTest (p : ParamId) (v : Int) (s : State) : Option ReplyData :=
  match p with
  | .overhead =>
    match shortInterval v.toNat (activeBank s.prog) with
    | some slot => some (.slotBank slot s.prog.active)
    | none =>
      if s.prog.commitPending then
        (shortInterval v.toNat (stagedBank s.prog)).map fun slot => .slotBank slot (stagedName s.prog)
      else none
  | .logSize => if s.log.records.isEmpty then none else some .empty
  | .sampleCount | .calibration | .k | .bulbThreshold | .linkPresent | .wakeLead | .meterLead | .settingLead
  | .focusLead | .syncWindow | .writeTimeout | .keepOnThreshold | .faultLimit | .autoResume | .capacity
  | .runCurrent | .dozeCurrent | .cameraCurrent | .heaterCurrent | .frameCharge | .vLow | .vCrit | .hysteresis
  | .stretch0 | .stretch1 | .stretch2 | .stretch3 | .heaterMinLevel | .tOn | .slope | .dutyMax | .alertMask => none

/-- Step 5 of R197: the parameter stored, with what its owner does in the event: the accrual before a draw change (R154),
the account under a new capacity (R151), the stretch change (R46, R160), the resized log (R181). -/
def storeParameter (p : ParamId) (v : Int) (s : State) : State :=
  let put := fun (s : State) => s.modParams fun q => storeParam q p v
  if p = .alertMask then s.modLine fun l => { l with mask := BitVec.ofInt 16 v }
  else if drawParam p then formDraw (put (accrual s))
  else if p = .capacity then
    let s1 := put s
    settleLevels (s1.modPow fun q => { q with account := min q.account (accountTop s1.params) })
  else if p = .logSize then (put s).modLog fun l => { l with readIndex := 0 }
  else
    match stretchLevel p with
    | some level => if level = s.pow.budgetLevel then keepOnTest (stretchChanged (put s)) else put s
    | none => put s

/-- R197: the parameter takes the value; a value already held changes nothing (entry 26). -/
def applyParameter (p : ParamId) (v : Int) (s : State) : State :=
  if paramValue s.params s.line.mask p = v ∧ lowersVCrit s.params p v = false then s else storeParameter p v s

/-- R197. -/
def setParam (id : Byte) (value : Word) (s : State) : Answer :=
  match paramOf id with
  | none => (s, .badField, .field 1)
  | some p =>
    if lockedParam p && locked s then refuse .locked s
    else
      let v := paramInRange s.params p value
      match ownerTest p v s with
      | some data => (s, .badState, data)
      | none =>
        (applyParameter p v s, if changedInRange s.params p value then .clamped else .ok,
          .parameter id v)

/-- R198. -/
def getParam (id : Byte) (s : State) : Answer :=
  match paramOf id with
  | none => (s, .badField, .field 1)
  | some p => (s, .ok, .parameter id (paramValue s.params s.line.mask p))

/-! ## Status -/

/-- R32, R130. -/
def sequencerStatus (s : State) : SequencerStatus :=
  { state := s.seq.state, stopPending := s.seq.stopPending, runNumber := s.seq.runNumber
    frameCounter := s.seq.frameCounter, slot := s.seq.current.map fun c => c.slot
    exposureCount := s.seq.current.map fun c => c.entry.exposureCount
    debounce := s.seq.current.map fun c => c.entry.debounce, walkCount := s.seq.walkCount, nextDue := nextDueReply s
    armedStart := if s.seq.state = .armed then s.seq.armedStart else none, timebase := s.tb
    holdCause := s.seq.hold.map fun h => h.cause, latch := latched s, ending := s.seq.ending }

/-- R65, R68. -/
def meterRampStatus (s : State) : MeterRampStatus :=
  { lLast := s.meter.lLast, converter := runningClass s.meter
    waiting := meterClasses.filter fun c => isWaiting (queueSlot s.meter c)
    seeded := s.ramp.seeded, f := s.ramp.f, ePrev := s.ramp.ePrev, sticky := s.ramp.sticky }

/-- R104: the number of a run frame in hand. -/
def runFrameInHand (s : State) : Option Nat :=
  match s.cam.frame with
  | some f => if f.kind = .run then some f.number else none
  | none => none

/-- R104. -/
def cameraStatus (s : State) : CameraStatus :=
  { phase := s.cam.phase, drain := s.cam.drain, cooldownEnd := s.cam.cooldownEnd, shut := s.cam.shut
    focus := s.cam.focus, power := s.cam.power, ready := s.cam.ready, syncClosed := s.cam.syncClosed
    inHand := runFrameInHand s, testShot := testInFlight s, faultCount := s.cam.faultCount, settings := s.cam.settings
    exchange := s.cam.exchange }

/-- R195: GET_STATUS. -/
def getStatus (part : Byte) (s : State) : Answer :=
  if part = 0 then (s, .ok, .sequencer (sequencerStatus s))
  else if part = 1 then (s, .ok, .meterRamp (meterRampStatus s))
  else if part = 2 then (s, .ok, .camera (cameraStatus s))
  else if part = 3 then (s, .ok, .testRecord s.cam.testRecord)
  else (s, .badField, .field 1)

/-! ## Line port -/

/-- R195: the part code 48, the revision 1, 24 slots per bank, the largest LEN 64. -/
def identify (s : State) : Answer := (s, .ok, .identify 48 1 24 64)

/-- R200: the alert set and the sticky set are returned and emptied. -/
def readAlerts (s : State) : Answer :=
  ((s.modLine fun l => { l with alerts := 0 }).modRamp fun r => { r with sticky := 0 }, .ok,
    .alerts s.line.alerts s.ramp.sticky)

/-- R192. -/
def getLinkStats (s : State) : Answer :=
  (s.modLine fun l =>
      { l with crcErrors := 0, framingErrors := 0, lengthErrors := 0, gapErrors := 0, overrunErrors := 0 }, .ok,
    .linkStats s.line.crcErrors s.line.framingErrors s.line.lengthErrors s.line.gapErrors s.line.overrunErrors
      s.line.speed s.line.state)

/-- R191: the switch is armed for the end of the reply. -/
def setLinkSpeed (code : Byte) (s : State) : Answer :=
  match speedOf code with
  | none => (s, .badField, .field 1)
  | some speed => (s.modLine fun l => { l with switchTo := some speed }, .ok, .empty)

/-! ## The owner's examination -/

/-- R60: METER_NOW raises a HOST request in NEAREST; its reply waits for the job's end. -/
def meterNow (s : State) : State := meterRequest .host .host .nearest s

/-- R190, R193: what the owner of a request answers in the event it executes; METER_NOW, which completes later, has no
answer yet. -/
def answerOf (r : Request) (s : State) : Option Answer :=
  match r with
  | .identify => some (identify s)
  | .getStatus part => some (getStatus part s)
  | .setClock seconds ticks => some (setClock seconds ticks s)
  | .setParam id value => some (setParam id value s)
  | .getParam id => some (getParam id s)
  | .putSegment slot record => some (putSegment slot record s)
  | .readSegment slot bank => some (readSegment slot bank s)
  | .clearStaged => some (clearStaged s)
  | .commit => some (commitRequest s)
  | .lockProgram => some (lockProgram s)
  | .start time => some (startRequest time s)
  | .stop => some (stopRequest s)
  | .hold => some (holdRequest s)
  | .resume mode => some (resumeRequest mode s)
  | .readResumeRecord => some (readResumeRecord s)
  | .setResumePoint slot count => some (setResumePoint slot count s)
  | .testShot => some (testShotRequest s)
  | .meterNow => none
  | .setCharge charge => some (setCharge charge s)
  | .getPower => some (s, .ok, .power (powerStatus s))
  | .readFrames => some (readFrames s)
  | .releaseFrames count => some (releaseFrames count s)
  | .getLogInfo => some (getLogInfo s)
  | .readAlerts => some (readAlerts s)
  | .getLinkStats => some (getLinkStats s)
  | .setLinkSpeed code => some (setLinkSpeed code s)
  | .unknownKind _ => some (s, .unknownKind, .empty)
  | .badLength _ => some (s, .badLength, .empty)

/-- R190: a request enters the executing slot and executes; its reply goes into transmission. -/
def executeRequest (r : Request) (s : State) : State :=
  let s1 := s.modLine fun l => { l with executing := some r }
  match answerOf r s1 with
  | none => meterNow s1
  | some (s2, status, data) => s2.modLine fun l => { l with reply := some (replyTo r status data) }

end Sys2Proof.Machine
end

