-- ==== Sys2Proof/Machine/LineControl.lean ====
section
/-! DEFINITION. The line port: the command slots (R189, R190), the receiver and its errors (R185, R186), break (R187), wake
and listen (R188), and the speed trial (R191). -/

namespace Sys2Proof.Machine

/-! ## Receiver errors -/

/-- An error counter stays at 65,535 once there (R186). -/
def countError (n : Nat) : Nat := min (n + 1) 65535

/-- The assembler cleared, with its gap timer (R185, R186). -/
def clearAssembler (l : LinePort) : LinePort := { l with assembling := false, gapAt := none }

/-- R186: each error raises LINK_ERROR in the event that finds it. -/
def linkError (f : LinePort → LinePort) (s : State) : State := raiseAlert .linkError (s.modLine f)

/-! ## Command slots -/

/-- R189: a valid frame's request is placed in the command slots, or dropped as an overrun. -/
def submit (r : Request) (s : State) : State :=
  if s.line.executing.isNone then executeRequest r s
  else if s.line.held.isNone then s.modLine fun l => { l with held := some r }
  else linkError (fun l => { l with overrunErrors := countError l.overrunErrors }) s

/-- R188, R191: a valid frame moves the listen expiry, and in SPEED_TRIAL confirms the speed. Its last stop bit was high, so
no break is timing any more (R183, R187). -/
def validFrame (s : State) : State :=
  match s.line.state with
  | .dormant => s
  | .listening => s.modLine fun l => { l with listenAt := some (now s + 2048), breakAt := none }
  | .speedTrial =>
    s.modLine fun l =>
      { l with state := .listening, trialAt := none, listenAt := some (now s + 2048), breakAt := none }

/-- A request that has arrived in a valid frame (R188, R189, R191). -/
def receive (r : Request) (s : State) : State := submit r (validFrame s)

/-! ## The receiver -/

/-- R188: a byte whose start bit began within 4 ticks of the waking edge is discarded unexamined. -/
def inWakeWindow (startedAgo : Nat) (s : State) : Bool :=
  match s.line.wakeEdgeAt with
  | some t => decide (now s < t + 4 + startedAgo)
  | none => false

/-- R185: the receiver takes bytes: not in DORMANT, and not while it waits for LRX to return high (R186). -/
def receiverOpen (s : State) : Bool := s.line.state != .dormant && !s.line.awaitHigh

def sofDue (startedAgo : Nat) (s : State) : Bool := receiverOpen s && !inWakeWindow startedAgo s

/-- R185, R186: an SOF byte begins a frame and arms the gap timer. In a frame under assembly it is the frame's next part, and
the gap is timed from its end. It is never its LEN byte there: a LEN of 0xC5 is the LENGTH_ERROR row alone (DESIGN CHOICE, entry 9).
Its stop bit was high, so no break is timing (R187). -/
def sofByte (s : State) : State :=
  s.modLine fun l => { l with assembling := true, gapAt := some (now s + 32), breakAt := none }

def assemblyOpen (s : State) : Bool := receiverOpen s && s.line.assembling

/-- R186: a LEN above 64 abandons the frame. -/
def lengthError (s : State) : State :=
  linkError (fun l => { clearAssembler l with lengthErrors := countError l.lengthErrors, breakAt := none }) s

/-- R185, R189: a complete frame: its CRC is checked, and a valid frame is handed to the command slots. A payload above 64
bytes cannot have got past its LEN byte (entry 5). -/
def frameReceived (kind : Byte) (payload : List Byte) (crc : Byte) (s : State) : State :=
  if 64 < payload.length then lengthError s
  else if frameCrc kind payload = crc then receive (decodeRequest kind payload) (s.modLine clearAssembler)
  else linkError (fun l => { clearAssembler l with crcErrors := countError l.crcErrors, breakAt := none }) s

/-- R187: the break timer of a line that has been low for so many ticks (entry 11). -/
def lowFrom (lowFor : Nat) (s : State) : Option Nat := some (now s - lowFor + 64)

/-- R186: a stop-bit error; the receiver waits for LRX to return high. A byte of the wake window is discarded, with nothing
counted (R188). In both a break is timed from the fall of LRX (R187). -/
def stopBitError (startedAgo lowFor : Nat) (s : State) : State :=
  if inWakeWindow startedAgo s then s.modLine fun l => { l with breakAt := lowFrom lowFor s }
  else
    linkError (fun l =>
      { clearAssembler l with
        framingErrors := countError l.framingErrors, awaitHigh := true, breakAt := lowFrom lowFor s }) s

def gapDue (s : State) : Bool := assemblyOpen s && reached s.line.gapAt s

/-- R186: the gap timer expires. -/
def gapError (s : State) : State :=
  linkError (fun l => { clearAssembler l with gapErrors := countError l.gapErrors }) s

/-- LRX is low, and its return is looked for: after a stop-bit error (R186), or with a break timing (R187). -/
def lrxLow (s : State) : Bool := s.line.awaitHigh || s.line.breakAt.isSome

/-- R186, R187: LRX has returned high. -/
def lrxReturnHigh (s : State) : State := s.modLine fun l => { l with awaitHigh := false, breakAt := none }

/-- R187, R22: the break timer's compare, registered 64 ticks after LRX fell (entry 11). -/
def breakDue (s : State) : Bool := reached s.line.breakAt s

/-- R187, R201: a break. -/
def lineBreak (s : State) : State :=
  s.modLine fun l =>
    { clearAssembler l with
      executing := none, held := none, reply := none, switchTo := none, trialAt := none, listenAt := none
      speed := .b9600, state := .dormant, awaitHigh := false, breakAt := none, wakeEdgeAt := none }

/-! ## Waking, listening and the speed trial -/

/-- R188. A falling edge on a line that was low means that LRX has returned high meanwhile (R186); the break is timed from
the edge (R187). -/
def wakeEdge (s : State) : State :=
  s.modLine fun l =>
    { l with
      state := .listening, listenAt := some (now s + 2048), wakeEdgeAt := some (now s), awaitHigh := false
      breakAt := some (now s + 64) }

def listenDue (s : State) : Bool := decide (s.line.state = .listening) && reached s.line.listenAt s

/-- R188: the line returns to DORMANT when nothing is in hand, and otherwise listens on. -/
def listenExpiry (s : State) : State :=
  s.modLine fun l =>
    if l.executing.isNone ∧ l.held.isNone ∧ l.reply.isNone ∧ l.assembling = false then
      { l with state := .dormant, listenAt := none, wakeEdgeAt := none }
    else { l with listenAt := some (now s + 2048) }

def trialDue (s : State) : Bool := decide (s.line.state = .speedTrial) && reached s.line.trialAt s

/-- R191: the speed reverts. -/
def trialExpiry (s : State) : State :=
  linkError (fun l =>
    { clearAssembler l with
      speed := l.oldSpeed, state := .listening, trialAt := none, listenAt := some (now s + 2048) }) s

/-- R191: the switch in the event in which the last byte of the reply has gone. -/
def switchSpeed (s : State) : State :=
  match s.line.switchTo with
  | none => s
  | some speed =>
    s.modLine fun l =>
      { clearAssembler l with
        oldSpeed := l.speed, speed := speed, switchTo := none, listenAt := none, state := .speedTrial
        trialAt := some (now s + 2048) }

def replyGoing (s : State) : Bool := s.line.reply.isSome && s.line.executing.isSome

/-- R190: the executing slot is emptied, a speed switch is made (R191), and the held request executes. -/
def replySent (s : State) : State :=
  let s1 := switchSpeed (s.modLine fun l => { l with reply := none, executing := none })
  match s1.line.held with
  | none => s1
  | some r => executeRequest r (s1.modLine fun l => { l with held := none })

end Sys2Proof.Machine
end

