-- ==== Sys2Proof/Machine/Resets.lean ====
section
/-! DEFINITION. Power-on reset and pin reset, block by block (R21, R25, R47, R66, R82, R101, R123, R144, R167, R182, R201). -/

namespace Sys2Proof.Machine

/-- The camera after a reset: the outputs inactive, nothing in hand; the two inputs are the camera's, and stay as they are
(R102, R103, R123). -/
def resetCamera (c : Camera) : Camera := { Camera.reset with ready := c.ready, syncClosed := c.syncClosed }

/-- Power-on reset: every block at its initial state. The queue, the counter of choices and the two input levels are
outside the part (entry 27). -/
def powerOnReset (s : State) : State :=
  { State.reset with cam := resetCamera s.cam, choices := s.choices, pending := s.pending }

/-- R47: a pin reset keeps the run number and the frame counter. -/
def pinResetSequencer (q : Sequencer) : Sequencer :=
  { Sequencer.reset with runNumber := q.runNumber, frameCounter := q.frameCounter }

/-- R150, R167: a pin reset at run time `t`: the account, the remainder and the charge level are kept, the time since the
last accrual is not charged. The core is RUN and then formed again: every condition of DOZE holds after a pin reset. -/
def pinResetPower (p : Params) (t : Nat) (q : Power) : Power :=
  { Power.reset with
    reEvaluate := true
    account := q.account
    remainder := q.remainder
    lastAccrual := t
    draw := drawOf p .doze false false
    chargeLevel := q.chargeLevel
    budgetLevel := budgetOf .normal q.chargeLevel
    core := .doze
    periodicAt := nextPeriodic t }

/-- Pin reset: the timebase, the banks, the lock, the log and the parameters but the alert mask are kept. -/
def pinReset (s : State) : State :=
  { s with
    prog := { s.prog with commitPending := false }
    seq := pinResetSequencer s.seq
    meter := Meter.reset
    ramp := Ramp.reset
    cam := resetCamera s.cam
    pow := pinResetPower s.params (now s) s.pow
    line := LinePort.reset }

end Sys2Proof.Machine
end

