-- ==== Sys2Proof/Machine/FrameCommands.lean ====
section
/-! DEFINITION. The meanings of the resets, the sequencer, the converter and the frame timeline (R28, R44, R50, R106 to R114). -/

namespace Sys2Proof.Machine

/-- POWER_ON_RESET (R25). -/
def execPowerOnReset (s : State) : Host.Outcome State Fault Refusal :=
  .next (powerOnReset s)

/-- PIN_RESET (R47). -/
def execPinReset (s : State) : Host.Outcome State Fault Refusal :=
  .next (pinReset s)

/-- ARMED_START_REACHED (R28). -/
def execArmedStartReached (s : State) : Host.Outcome State Fault Refusal :=
  .next (event (armedStartDue s) runBegin s)

/-- PREPARATION_START (R44). -/
def execPreparationStart (s : State) : Host.Outcome State Fault Refusal :=
  .next (event (preparationDue s) preparationStart s)

/-- CONVERTER_JOB_END (R50). -/
def execConverterJobEnd (codes : List Code) (s : State) : Host.Outcome State Fault Refusal :=
  match jobEnding codes s with
  | some (c, job, cal, r) => .next (endEvent s (endJob c job cal r s))
  | none => .next s

/-- METER_LEAD (R108). -/
def execMeterLead (s : State) : Host.Outcome State Fault Refusal :=
  .next (event (meterLeadDue s) meterLead s)

/-- SETTING_LEAD (R108). -/
def execSettingLead (s : State) : Host.Outcome State Fault Refusal :=
  .next (event (settingLeadDue s) settingLead s)

/-- FOCUS_LEAD (R110). -/
def execFocusLead (s : State) : Host.Outcome State Fault Refusal :=
  .next (event (focusLeadDue s) focusLead s)

/-- DUE_TIME (R111). -/
def execDueTime (s : State) : Host.Outcome State Fault Refusal :=
  .next (event (dueTimeDue s) dueTime s)

/-- SHUTTER_HOLD_EXPIRY (R111). -/
def execShutterHoldExpiry (s : State) : Host.Outcome State Fault Refusal :=
  .next (event (shutterHoldDue s) shutterHoldExpiry s)

/-- SYNC_CLOSURE (R111). -/
def execSyncClosure (s : State) : Host.Outcome State Fault Refusal :=
  .next (event true syncClosure s)

/-- SYNC_WINDOW_EXPIRY (R111). -/
def execSyncWindowExpiry (s : State) : Host.Outcome State Fault Refusal :=
  .next (event (syncWindowDue s) syncWindowExpiry s)

/-- READY_CHANGE (R112). -/
def execReadyChange (rise : Bool) (s : State) : Host.Outcome State Fault Refusal :=
  .next (event (s.cam.ready != rise) (readyChange rise) s)

/-- DROP_WATCH_EXPIRY (R112). -/
def execDropWatchExpiry (s : State) : Host.Outcome State Fault Refusal :=
  .next (event (dropWatchDue s) dropWatchExpiry s)

/-- WRITE_TIMEOUT (R112). -/
def execWriteTimeout (s : State) : Host.Outcome State Fault Refusal :=
  .next (event (writeTimeoutDue s) writeTimeout s)

/-- COOLDOWN_END (R114). -/
def execCooldownEnd (s : State) : Host.Outcome State Fault Refusal :=
  .next (event (cooldownDue s) cooldownEnd s)

end Sys2Proof.Machine
end

