-- ==== Sys2Proof/Machine/LineCommands.lean ====
section
/-! DEFINITION. The meanings of the events of the host line (R185 to R191). -/

namespace Sys2Proof.Machine

/-- FRAME_RECEIVED (R189). A payload is taken whole, as its CRC byte arrives (entry 9). -/
def execFrameReceived (kind : Byte) (payload : List Byte) (crc : Byte) (s : State) : Host.Outcome State Fault Refusal :=
  .next (event (assemblyOpen s) (frameReceived kind payload crc) s)

/-- STOP_BIT_ERROR (R186, R188). -/
def execStopBitError (startedAgo lowFor : Nat) (s : State) : Host.Outcome State Fault Refusal :=
  .next (event (receiverOpen s) (stopBitError startedAgo lowFor) s)

/-- LENGTH_ERROR (R186). -/
def execLengthError (len : Byte) (s : State) : Host.Outcome State Fault Refusal :=
  .next (event (assemblyOpen s && decide (64 < len.toNat)) lengthError s)

/-- GAP_ERROR (R186). -/
def execGapError (s : State) : Host.Outcome State Fault Refusal :=
  .next (event (gapDue s) gapError s)

/-- LINE_BREAK (R187). -/
def execLineBreak (s : State) : Host.Outcome State Fault Refusal :=
  .next (event (breakDue s) lineBreak s)

/-- WAKE_EDGE (R188). -/
def execWakeEdge (s : State) : Host.Outcome State Fault Refusal :=
  .next (event (decide (s.line.state = .dormant)) wakeEdge s)

/-- LISTEN_EXPIRY (R188). -/
def execListenExpiry (s : State) : Host.Outcome State Fault Refusal :=
  .next (event (listenDue s) listenExpiry s)

/-- TRIAL_EXPIRY (R191). -/
def execTrialExpiry (s : State) : Host.Outcome State Fault Refusal :=
  .next (event (trialDue s) trialExpiry s)

/-- REPLY_SENT (R190). -/
def execReplySent (s : State) : Host.Outcome State Fault Refusal :=
  .next (event (replyGoing s) replySent s)

/-- SOF_BYTE (R185). -/
def execSofByte (startedAgo : Nat) (s : State) : Host.Outcome State Fault Refusal :=
  .next (event (sofDue startedAgo s) Sys2Proof.Machine.sofByte s)

/-- LRX_RETURN_HIGH (R186). -/
def execLrxReturnHigh (s : State) : Host.Outcome State Fault Refusal :=
  .next (event (lrxLow s) lrxReturnHigh s)

end Sys2Proof.Machine
end

