-- ==== Sys2Proof/Machine/LinkPowerCommands.lean ====
section
/-! DEFINITION. The meanings of the accessory link (R88 to R91) and the power monitor (R142, R146, R162, R164). -/

namespace Sys2Proof.Machine

/-- SETTING_RECORD_SENT (R89). -/
def execSettingRecordSent (s : State) : Host.Outcome State Fault Refusal :=
  .next (event (decide (s.cam.exchange = .sending)) settingRecordSent s)

/-- REPLY_LEAD_BYTE (R88). -/
def execReplyLeadByte (s : State) : Host.Outcome State Fault Refusal :=
  .next (event (decide (s.cam.exchange = .awaiting)) replyLeadByte s)

/-- REPLY_RECORD (R90). -/
def execReplyRecord (status mode shutter gain checksum : Byte) (s : State) : Host.Outcome State Fault Refusal :=
  .next (event (decide (s.cam.exchange = .awaiting) && s.cam.assembling) (replyRecord status mode shutter gain checksum) s)

/-- ACCESSORY_BYTE_ERROR (R88). -/
def execAccessoryByteError (s : State) : Host.Outcome State Fault Refusal :=
  .next (event (decide (s.cam.exchange = .awaiting)) accessoryByteError s)

/-- REPLY_WINDOW_EXPIRY (R91). -/
def execReplyWindowExpiry (s : State) : Host.Outcome State Fault Refusal :=
  .next (event (replyWindowDue s) replyWindowExpiry s)

/-- RECOVERY_TIMER_EXPIRY (R142). -/
def execRecoveryTimerExpiry (s : State) : Host.Outcome State Fault Refusal :=
  .next (event (recoveryDue s) recoveryExpiry s)

/-- PERIODIC_COMPARE (R146). -/
def execPeriodicCompare (s : State) : Host.Outcome State Fault Refusal :=
  .next (event (periodicDue s) periodicCompare s)

/-- TEMPERATURE_COMPARE (R162). -/
def execTemperatureCompare (s : State) : Host.Outcome State Fault Refusal :=
  .next (event (temperatureDue s) temperatureCompare s)

/-- HEATER_PERIOD_START (R164). -/
def execHeaterPeriodStart (s : State) : Host.Outcome State Fault Refusal :=
  .next (event (heaterPeriodDue s) heaterPeriodStart s)

/-- HEATER_OFF_EDGE (R164). -/
def execHeaterOffEdge (s : State) : Host.Outcome State Fault Refusal :=
  .next (event (heaterOffDue s) heaterOffEdge s)

end Sys2Proof.Machine
end

