-- ==== Sys2Proof/Machine/RequestCommands.lean ====
section
/-! DEFINITION. The meanings of the twenty-six requests of R194. A request row stands for a valid frame holding that request: it moves the listen
expiry or confirms a speed trial (R188, R191) and is placed in the command slots (R189, entry 4). -/

namespace Sys2Proof.Machine

/-- IDENTIFY (R195). -/
def execIdentify (s : State) : Host.Outcome State Fault Refusal :=
  .next (endEvent s (receive .identify s))

/-- GET_STATUS (R195). -/
def execGetStatus (part : Byte) (s : State) : Host.Outcome State Fault Refusal :=
  .next (endEvent s (receive (.getStatus part) s))

/-- SET_CLOCK (R24). -/
def execSetClock (seconds : Word) (ticks : Half) (s : State) : Host.Outcome State Fault Refusal :=
  .next (endEvent s (receive (.setClock seconds ticks) s))

/-- SET_PARAM (R197). -/
def execSetParam (id : Byte) (value : Word) (s : State) : Host.Outcome State Fault Refusal :=
  .next (endEvent s (receive (.setParam id value) s))

/-- GET_PARAM (R198). -/
def execGetParam (id : Byte) (s : State) : Host.Outcome State Fault Refusal :=
  .next (endEvent s (receive (.getParam id) s))

/-- PUT_SEGMENT (R8). -/
def execPutSegment (slot : Byte) (record : SegmentRecord) (s : State) : Host.Outcome State Fault Refusal :=
  .next (endEvent s (receive (.putSegment slot record) s))

/-- READ_SEGMENT (R11). -/
def execReadSegment (slot bank : Byte) (s : State) : Host.Outcome State Fault Refusal :=
  .next (endEvent s (receive (.readSegment slot bank) s))

/-- CLEAR_STAGED (R12). -/
def execClearStaged (s : State) : Host.Outcome State Fault Refusal :=
  .next (endEvent s (receive .clearStaged s))

/-- COMMIT (R14). -/
def execCommit (s : State) : Host.Outcome State Fault Refusal :=
  .next (endEvent s (receive .commit s))

/-- LOCK_PROGRAM (R20). -/
def execLockProgram (s : State) : Host.Outcome State Fault Refusal :=
  .next (endEvent s (receive .lockProgram s))

/-- START (R27). -/
def execStart (time : Option Word) (s : State) : Host.Outcome State Fault Refusal :=
  .next (endEvent s (receive (.start time) s))

/-- STOP (R30). -/
def execStop (s : State) : Host.Outcome State Fault Refusal :=
  .next (endEvent s (receive .stop s))

/-- HOLD (R125). -/
def execHold (s : State) : Host.Outcome State Fault Refusal :=
  .next (endEvent s (receive .hold s))

/-- RESUME (R136). -/
def execResume (mode : Byte) (s : State) : Host.Outcome State Fault Refusal :=
  .next (endEvent s (receive (.resume mode) s))

/-- READ_RESUME_RECORD (R132). -/
def execReadResumeRecord (s : State) : Host.Outcome State Fault Refusal :=
  .next (endEvent s (receive .readResumeRecord s))

/-- SET_RESUME_POINT (R134). -/
def execSetResumePoint (slot : Byte) (count : Half) (s : State) : Host.Outcome State Fault Refusal :=
  .next (endEvent s (receive (.setResumePoint slot count) s))

/-- TEST_SHOT (R121). -/
def execTestShot (s : State) : Host.Outcome State Fault Refusal :=
  .next (endEvent s (receive .testShot s))

/-- METER_NOW (R60). -/
def execMeterNow (s : State) : Host.Outcome State Fault Refusal :=
  .next (endEvent s (receive .meterNow s))

/-- SET_CHARGE (R157). -/
def execSetCharge (charge : Half) (s : State) : Host.Outcome State Fault Refusal :=
  .next (endEvent s (receive (.setCharge charge) s))

/-- GET_POWER (R166). -/
def execGetPower (s : State) : Host.Outcome State Fault Refusal :=
  .next (endEvent s (receive .getPower s))

/-- READ_FRAMES (R178). -/
def execReadFrames (s : State) : Host.Outcome State Fault Refusal :=
  .next (endEvent s (receive .readFrames s))

/-- RELEASE_FRAMES (R179). -/
def execReleaseFrames (count : Half) (s : State) : Host.Outcome State Fault Refusal :=
  .next (endEvent s (receive (.releaseFrames count) s))

/-- GET_LOG_INFO (R180). -/
def execGetLogInfo (s : State) : Host.Outcome State Fault Refusal :=
  .next (endEvent s (receive .getLogInfo s))

/-- READ_ALERTS (R200). -/
def execReadAlerts (s : State) : Host.Outcome State Fault Refusal :=
  .next (endEvent s (receive .readAlerts s))

/-- GET_LINK_STATS (R192). -/
def execGetLinkStats (s : State) : Host.Outcome State Fault Refusal :=
  .next (endEvent s (receive .getLinkStats s))

/-- SET_LINK_SPEED (R191). -/
def execSetLinkSpeed (code : Byte) (s : State) : Host.Outcome State Fault Refusal :=
  .next (endEvent s (receive (.setLinkSpeed code) s))

end Sys2Proof.Machine
end

