-- ==== Sys2Proof/Machine/Dispatch.lean ====
section
/-! DEFINITION. One arm per command: the call of its meaning. -/

namespace Sys2Proof.Machine

def exec (i : Instr) (s : State) : Host.Outcome State Fault Refusal :=
  match i with
  | .identify => Sys2Proof.Machine.execIdentify s
  | .getStatus part => Sys2Proof.Machine.execGetStatus part s
  | .setClock seconds ticks => Sys2Proof.Machine.execSetClock seconds ticks s
  | .setParam id value => Sys2Proof.Machine.execSetParam id value s
  | .getParam id => Sys2Proof.Machine.execGetParam id s
  | .putSegment slot record => Sys2Proof.Machine.execPutSegment slot record s
  | .readSegment slot bank => Sys2Proof.Machine.execReadSegment slot bank s
  | .clearStaged => Sys2Proof.Machine.execClearStaged s
  | .commit => Sys2Proof.Machine.execCommit s
  | .lockProgram => Sys2Proof.Machine.execLockProgram s
  | .start time => Sys2Proof.Machine.execStart time s
  | .stop => Sys2Proof.Machine.execStop s
  | .hold => Sys2Proof.Machine.execHold s
  | .resume mode => Sys2Proof.Machine.execResume mode s
  | .readResumeRecord => Sys2Proof.Machine.execReadResumeRecord s
  | .setResumePoint slot count => Sys2Proof.Machine.execSetResumePoint slot count s
  | .testShot => Sys2Proof.Machine.execTestShot s
  | .meterNow => Sys2Proof.Machine.execMeterNow s
  | .setCharge charge => Sys2Proof.Machine.execSetCharge charge s
  | .getPower => Sys2Proof.Machine.execGetPower s
  | .readFrames => Sys2Proof.Machine.execReadFrames s
  | .releaseFrames count => Sys2Proof.Machine.execReleaseFrames count s
  | .getLogInfo => Sys2Proof.Machine.execGetLogInfo s
  | .readAlerts => Sys2Proof.Machine.execReadAlerts s
  | .getLinkStats => Sys2Proof.Machine.execGetLinkStats s
  | .setLinkSpeed code => Sys2Proof.Machine.execSetLinkSpeed code s
  | .frameReceived kind payload crc => Sys2Proof.Machine.execFrameReceived kind payload crc s
  | .stopBitError startedAgo lowFor => Sys2Proof.Machine.execStopBitError startedAgo lowFor s
  | .lengthError len => Sys2Proof.Machine.execLengthError len s
  | .gapError => Sys2Proof.Machine.execGapError s
  | .lineBreak => Sys2Proof.Machine.execLineBreak s
  | .wakeEdge => Sys2Proof.Machine.execWakeEdge s
  | .listenExpiry => Sys2Proof.Machine.execListenExpiry s
  | .trialExpiry => Sys2Proof.Machine.execTrialExpiry s
  | .replySent => Sys2Proof.Machine.execReplySent s
  | .powerOnReset => Sys2Proof.Machine.execPowerOnReset s
  | .pinReset => Sys2Proof.Machine.execPinReset s
  | .armedStartReached => Sys2Proof.Machine.execArmedStartReached s
  | .preparationStart => Sys2Proof.Machine.execPreparationStart s
  | .converterJobEnd codes => Sys2Proof.Machine.execConverterJobEnd codes s
  | .meterLead => Sys2Proof.Machine.execMeterLead s
  | .settingLead => Sys2Proof.Machine.execSettingLead s
  | .focusLead => Sys2Proof.Machine.execFocusLead s
  | .settingRecordSent => Sys2Proof.Machine.execSettingRecordSent s
  | .replyRecord status mode shutter gain checksum => Sys2Proof.Machine.execReplyRecord status mode shutter gain checksum s
  | .accessoryByteError => Sys2Proof.Machine.execAccessoryByteError s
  | .replyWindowExpiry => Sys2Proof.Machine.execReplyWindowExpiry s
  | .dueTime => Sys2Proof.Machine.execDueTime s
  | .shutterHoldExpiry => Sys2Proof.Machine.execShutterHoldExpiry s
  | .syncClosure => Sys2Proof.Machine.execSyncClosure s
  | .syncWindowExpiry => Sys2Proof.Machine.execSyncWindowExpiry s
  | .readyChange rise => Sys2Proof.Machine.execReadyChange rise s
  | .dropWatchExpiry => Sys2Proof.Machine.execDropWatchExpiry s
  | .writeTimeout => Sys2Proof.Machine.execWriteTimeout s
  | .cooldownEnd => Sys2Proof.Machine.execCooldownEnd s
  | .recoveryTimerExpiry => Sys2Proof.Machine.execRecoveryTimerExpiry s
  | .periodicCompare => Sys2Proof.Machine.execPeriodicCompare s
  | .temperatureCompare => Sys2Proof.Machine.execTemperatureCompare s
  | .heaterPeriodStart => Sys2Proof.Machine.execHeaterPeriodStart s
  | .heaterOffEdge => Sys2Proof.Machine.execHeaterOffEdge s
  | .sofByte startedAgo => Sys2Proof.Machine.execSofByte startedAgo s
  | .replyLeadByte => Sys2Proof.Machine.execReplyLeadByte s
  | .lrxReturnHigh => Sys2Proof.Machine.execLrxReturnHigh s

end Sys2Proof.Machine
end

