-- ==== Sys2Proof/Machine/TimeService.lean ====
section
/-! DEFINITION. What the part does with no command waiting (entry 1): the timebase serves one compare that the run counter has
reached (R22), or lets one tick pass (R22, R23). -/

namespace Sys2Proof.Machine

/-- The compares that are registered and have been reached, each as the command that serves it. The end of a converter job
is not among them, since its codes come from outside. -/
def dueCompares (s : State) : List Instr :=
  ([(armedStartDue s, Instr.armedStartReached), (preparationDue s, .preparationStart), (meterLeadDue s, .meterLead),
    (settingLeadDue s, .settingLead), (focusLeadDue s, .focusLead), (replyWindowDue s, .replyWindowExpiry),
    (dueTimeDue s, .dueTime), (shutterHoldDue s, .shutterHoldExpiry), (syncWindowDue s, .syncWindowExpiry),
    (dropWatchDue s, .dropWatchExpiry), (writeTimeoutDue s, .writeTimeout), (cooldownDue s, .cooldownEnd),
    (recoveryDue s, .recoveryTimerExpiry), (periodicDue s, .periodicCompare), (temperatureDue s, .temperatureCompare),
    (heaterPeriodDue s, .heaterPeriodStart), (heaterOffDue s, .heaterOffEdge), (listenDue s, .listenExpiry),
    (trialDue s, .trialExpiry), (gapDue s, .gapError), (breakDue s, .lineBreak)].filter fun c => c.1).map fun c => c.2

/-- R187: the break timer after a tick in which no row has told the level of LRX (entry 11). A fall, which in DORMANT would be
the waking edge, starts it anew, and a return high ends it. Both are free, and while LRX is awaited high neither can be. -/
def breakTick (t : Nat) (l : LinePort) : Option Nat :=
  if l.awaitHigh then l.breakAt
  else if l.state != .dormant && Config.lrxFell t then some (t + 64)
  else if Config.lrxReturned t then none
  else l.breakAt

/-- What LRX may have shown by a run time with no row to tell it: a byte of the frame under assembly, which restarts the gap
timer (R186, entry 9), and its falls and returns (R187). -/
def lineTick (t : Nat) (l : LinePort) : LinePort :=
  { l with
    gapAt := if Config.byteArrived t then l.gapAt.map fun _ => t + 32 else l.gapAt
    breakAt := breakTick t l }

/-- R22, R23: one tick of the run counter and of the wall clock. A closed SYNC contact may have opened again by then, which is
free (entry 8). -/
def tick (s : State) : State :=
  let s1 := s.modTb fun t => wallTick (runTick t)
  (s1.modCam fun c => { c with syncClosed := c.syncClosed && !Config.syncReopened (now s1) }).modLine (lineTick (now s1))

/-- The step with no command waiting. Of several reached compares a free value picks the first served (entry 6). -/
def idleStep (s : State) : Host.Outcome State Fault Refusal :=
  match dueCompares s with
  | [] => .next (tick s)
  | [c] => exec c s
  | c :: d :: rest =>
    exec ((c :: d :: rest).getD (Config.compareChoice s.choices % (rest.length + 2)) c) { s with choices := s.choices + 1 }

end Sys2Proof.Machine
end

