-- ==== Sys2Proof/Safety.lean ====
section
/-! DEFINITION. What holds of every state of a run, in the terms the claims use: the laws of the log, the account, the
command slots, the attention line, the heater, the camera lines, the parameters and the stored segments; and what it means
that nothing is left to form at the end of an event. -/

namespace Sys2Proof.Machine

/-! ## Frame log -/

/-- R168: the log never holds more than its size, and the counters satisfy their relation modulo 2^32. -/
def LogLaw (s : State) : Prop :=
  (s.params.logSize = 64 ∨ s.params.logSize = 128 ∨ s.params.logSize = 256 ∨ s.params.logSize = 512) ∧
  s.log.records.length ≤ s.params.logSize ∧ s.log.readIndex < s.params.logSize ∧
  s.log.written < 4294967296 ∧ s.log.released < 4294967296 ∧ s.log.overwritten < 4294967296 ∧
  (s.log.records.length + s.log.released + s.log.overwritten) % 4294967296 = s.log.written

/-! ## Charge account, levels, heater -/

/-- R151, R153: the account lies within the capacity, and the remainder below one mA·s. -/
def AccountLaw (s : State) : Prop := s.pow.account ≤ accountTop s.params ∧ s.pow.remainder < 1024000

/-- R158, R159: the levels stand as the account and the voltage state give them. -/
def LevelLaw (s : State) : Prop :=
  nextChargeLevel s.pow.chargeLevel (perMille s) = s.pow.chargeLevel ∧
  s.pow.budgetLevel = budgetOf s.pow.voltage s.pow.chargeLevel

/-- R162: the heater is eligible exactly under its three conditions, and HEAT is on only while it is. -/
def HeaterLaw (s : State) : Prop :=
  s.pow.eligible = heaterConditions s ∧ (s.pow.heat = true → s.pow.eligible = true)

/-! ## Line port -/

/-- R199: ATN is asserted exactly when the set holds an alert that the mask enables. -/
def AttentionLaw (s : State) : Prop := s.line.atn = atnOf s.line

/-- R189, R190: a request waits in the held slot only behind one in the executing slot. -/
def SlotLaw (s : State) : Prop := s.line.held.isSome = true → s.line.executing.isSome = true

/-! ## Camera lines -/

/-- R102, R105: CAMPWR and what is in hand, by phase. -/
def PhaseLaw (s : State) : Prop :=
  match s.cam.phase with
  | .off | .cooldown => s.cam.power = false ∧ s.cam.frame = none ∧ s.cam.drain = false
  | .idleOn => s.cam.power = true ∧ s.cam.frame = none ∧ s.cam.drain = false
  | .waking | .preparing => s.cam.frame.isSome = true ∧ s.cam.drain = false
  | .setting | .waitDue | .exposing => s.cam.power = true ∧ s.cam.frame.isSome = true ∧ s.cam.drain = false
  | .writing => s.cam.power = true ∧ s.cam.drain = s.cam.frame.isNone

/-- R102: the first law, and the law of FOCUS. -/
def ShutterLaw (s : State) : Prop :=
  (s.cam.shut = true → s.cam.power = true ∧ s.cam.phase = .exposing) ∧
  (s.cam.focus = true →
    s.cam.power = true ∧ (s.cam.phase = .setting ∨ s.cam.phase = .waitDue ∨ s.cam.phase = .exposing))

/-- R102: the second law: CAMPWR is off in HOLD, and in IDLE and ENDED except while a test shot is in flight. -/
def ParkedLaw (s : State) : Prop :=
  (s.seq.state = .hold → s.cam.power = false) ∧
  (s.seq.state = .idle ∨ s.seq.state = .ended → s.cam.power = true → testInFlight s = true)

/-- R105, R119, R121: a run frame is in hand in RUNNING and HOLDING alone, a test shot in IDLE and ENDED, a drain in HOLDING.
R17, R18: a commit is pending only with a run frame in hand. R88, R89: an exchange is open in SETTING alone. R117: in IDLE_ON the
keep-on conditions hold. -/
def HandLaw (s : State) : Prop :=
  (frameInFlight s = true → s.seq.state = .running ∨ s.seq.state = .holding) ∧
  (testInFlight s = true → s.seq.state = .idle ∨ s.seq.state = .ended) ∧
  (s.cam.drain = true → s.seq.state = .holding) ∧
  (s.prog.commitPending = true → frameInFlight s = true) ∧
  (s.cam.exchange ≠ .idle → s.cam.phase = .setting) ∧
  (s.cam.phase = .idleOn → keepOnHolds s = true)

/-- R28, R43, R57: while the seed metering of a run is awaited no frame is in hand and no preparation start is registered, nor is
one in ARMED. -/
def SeedLaw (s : State) : Prop :=
  (s.seq.awaitingSeed = true →
    (s.seq.state = .running ∨ s.seq.state = .holding) ∧ s.cam.frame = none ∧ s.seq.prepRegistered = false) ∧
  (s.seq.state = .armed → s.seq.prepRegistered = false)

/-! ## Parameters and segments -/

/-- R196: every parameter lies in its range; R147 and R106 for V_crit and the meter lead. -/
def ParamLaw (p : Params) : Prop :=
  p.sampleCount ≤ 3 ∧ (-128 ≤ p.calibration ∧ p.calibration ≤ 127) ∧ (-512 ≤ p.k ∧ p.k ≤ 511) ∧ p.overhead ≤ 65535 ∧
  (-48 ≤ p.bulbThreshold ∧ p.bulbThreshold ≤ 64) ∧ p.linkPresent ≤ 1 ∧
  (1024 ≤ p.wakeLead ∧ p.wakeLead ≤ 20480) ∧ (64 ≤ p.meterLead ∧ p.meterLead ≤ 1088) ∧
  (64 ≤ p.settingLead ∧ p.settingLead ≤ 1024) ∧ p.focusLead ≤ 1024 ∧
  (p.syncWindow = 0 ∨ (16 ≤ p.syncWindow ∧ p.syncWindow ≤ 1024)) ∧
  (2048 ≤ p.writeTimeout ∧ p.writeTimeout ≤ 614400) ∧ p.keepOnThreshold ≤ 614400 ∧
  (1 ≤ p.faultLimit ∧ p.faultLimit ≤ 15) ∧ p.autoResume ≤ 1 ∧ (100 ≤ p.capacity ∧ p.capacity ≤ 65000) ∧
  p.runCurrent ≤ 65535 ∧ p.dozeCurrent ≤ 65535 ∧ p.cameraCurrent ≤ 2000000 ∧ p.heaterCurrent ≤ 2000000 ∧
  p.frameCharge ≤ 1000 ∧ (6000 ≤ p.vLow ∧ p.vLow ≤ 16000) ∧ (5000 ≤ p.vCrit ∧ p.vCrit ≤ 15900) ∧
  p.vCrit + 100 ≤ p.vLow ∧ (50 ≤ p.hysteresis ∧ p.hysteresis ≤ 2000) ∧
  (1 ≤ p.stretch0 ∧ p.stretch0 ≤ 8) ∧ (1 ≤ p.stretch1 ∧ p.stretch1 ≤ 8) ∧ (1 ≤ p.stretch2 ∧ p.stretch2 ≤ 8) ∧
  (1 ≤ p.stretch3 ∧ p.stretch3 ≤ 8) ∧ p.heaterMinLevel ≤ 3 ∧ (-800 ≤ p.tOn ∧ p.tOn ≤ 800) ∧ p.slope ≤ 255 ∧
  p.dutyMax ≤ 255 ∧
  (p.logSize = 64 ∨ p.logSize = 128 ∨ p.logSize = 256 ∨ p.logSize = 512)

/-- Section 1.2, R3, R4, R9: a stored segment's fields lie in their ranges, those that a kind governs in the range of their
kind, and D_min ≤ D_max. -/
def SegmentLaw (g : Segment) : Prop :=
  (g.gate = .day ∨ g.gate = .night → -256 ≤ g.gateArg1 ∧ g.gateArg1 ≤ 383) ∧
  (g.gate = .window → 0 ≤ g.gateArg1 ∧ g.gateArg1 ≤ 1439 ∧ 0 ≤ g.gateArg2 ∧ g.gateArg2 ≤ 1439) ∧
  (g.gate = .level → 0 ≤ g.gateArg1 ∧ g.gateArg1 ≤ 3) ∧
  (g.term = .frames → 1 ≤ g.termArg.toNat ∧ g.termArg.toNat ≤ 65535) ∧
  (g.term = .duration → 1 ≤ g.termArg.toNat ∧ g.termArg.toNat ≤ 4000000) ∧
  (g.term = .clock → g.termArg.toNat ≤ 1439) ∧
  (g.term = .lightBelow ∨ g.term = .lightAbove → -256 ≤ g.termArg.toInt ∧ g.termArg.toInt ≤ 383) ∧
  (g.term = .levelBelow → 1 ≤ g.termArg.toNat ∧ g.termArg.toNat ≤ 3) ∧
  (g.next = .jump → g.jump < 24) ∧
  (1024 ≤ g.interval ∧ g.interval ≤ 88473600) ∧ (-208 ≤ g.fixedE ∧ g.fixedE ≤ 288) ∧
  (-128 ≤ g.biasStart ∧ g.biasStart ≤ 128) ∧ (-128 ≤ g.biasEnd ∧ g.biasEnd ≤ 128) ∧ g.smoothing ≤ 7 ∧
  (1 ≤ g.slew ∧ g.slew ≤ 64) ∧ (-208 ≤ g.dMin ∧ g.dMin ≤ 192) ∧ (-208 ≤ g.dMax ∧ g.dMax ≤ 192) ∧ g.gMax ≤ 96 ∧
  g.dMin ≤ g.dMax

/-- Every segment that either bank holds keeps `SegmentLaw`. -/
def StoreLaw (s : State) : Prop :=
  ∀ (n : BankName) (i : Nat) (g : Segment), slotOf (bankOf s.prog n) i = some g → SegmentLaw g

/-! ## What every step keeps -/

/-- The account, the levels and the heater. -/
def PowerInv (s : State) : Prop := AccountLaw s ∧ LevelLaw s ∧ HeaterLaw s

/-- What requests store, and what the line port shows of it. -/
def StoredInv (s : State) : Prop := ParamLaw s.params ∧ StoreLaw s ∧ AttentionLaw s ∧ SlotLaw s

/-- The camera lines, and what is in hand. -/
def CameraInv (s : State) : Prop := PhaseLaw s ∧ ShutterLaw s ∧ HandLaw s ∧ SeedLaw s

/-! ## Frame overhead -/

/-- R79: slot `i` is the first of a bank whose interval is less than an overhead + 1024. -/
def FirstShort (overhead : Nat) (b : Bank) (i : Nat) : Prop :=
  i < 24 ∧ (∃ g, slotOf b i = some g ∧ g.interval < overhead + 1024) ∧
  ∀ j < i, ∀ g, slotOf b j = some g → overhead + 1024 ≤ g.interval

/-- R79: no slot of a bank has an interval less than an overhead + 1024. -/
def NoneShort (overhead : Nat) (b : Bank) : Prop :=
  ∀ i < 24, ∀ g, slotOf b i = some g → overhead + 1024 ≤ g.interval

/-! ## Nothing left to form -/

/-- The end of an event would change nothing: no keep-on test to fail, no HOLDING, the heater's eligibility formed, no job
WAITING for an idle converter, the recovery timer and ATN formed. -/
def Settled (s : State) : Prop :=
  ¬(s.cam.phase = .idleOn ∧ keepOnHolds s = false) ∧ s.seq.state ≠ .holding ∧
  heaterConditions s = s.pow.eligible ∧
  (runningClass s.meter ≠ none ∨ waitingClasses s.meter = []) ∧
  (s.pow.recovery = none ∨ (s.seq.state = .hold ∧ (s.seq.hold.map fun h => h.cause) = some .power)) ∧
  s.line.atn = atnOf s.line

/-- R172, R173, R175: a log record holds what a frame had reached when its outcome was settled in `s`: its metered value, its
target and mode when it was computed, its applied values when its record was finished, its flags, and its due wall time. A frame
with no computation has the marks of its metered value for flags. -/
def RecordsFrame (s : State) (f : Frame) (r : LogRecord) : Prop :=
  r.run = s.seq.runNumber ∧ r.frame = f.number ∧ r.segment = f.slot ∧ r.lAvg = f.metered.map (fun m => m.value) ∧
  r.eT = f.exposure.map (fun e => e.eT) ∧ r.mode = f.exposure.map (fun e => e.mode) ∧
  r.gain = (f.exposure.bind fun e => e.applied).map (fun a => a.gain) ∧
  r.residual = (f.exposure.bind fun e => e.applied).map (fun a => a.residual) ∧
  (r.dueSeconds, r.dueTicks) = wallTimeAt s.tb f.due ∧
  r.flags =
    (match f.exposure, f.metered with
      | some _, _ => f.flags
      | none, some m => (if m.dark = true then (0x0008 : Half) else 0) ||| (if m.late = true then 0x0010 else 0)
      | none, none => 0) |||
      (if 1 < f.factor then (0x0200 : Half) else 0) ||| (if s.tb.valid = true then 0 else 0x0400)

/-- The receiver runs and the executing slot is empty, so that a request arriving now executes at once (R189). -/
def Listening (s : State) : Prop := s.line.state ≠ .dormant ∧ s.line.executing = none

/-- The request that a request row stands for (R194). -/
def requestOf : Instr → Option Request
  | .identify => some .identify
  | .getStatus part => some (.getStatus part)
  | .setClock seconds ticks => some (.setClock seconds ticks)
  | .setParam id value => some (.setParam id value)
  | .getParam id => some (.getParam id)
  | .putSegment slot record => some (.putSegment slot record)
  | .readSegment slot bank => some (.readSegment slot bank)
  | .clearStaged => some .clearStaged
  | .commit => some .commit
  | .lockProgram => some .lockProgram
  | .start time => some (.start time)
  | .stop => some .stop
  | .hold => some .hold
  | .resume mode => some (.resume mode)
  | .readResumeRecord => some .readResumeRecord
  | .setResumePoint slot count => some (.setResumePoint slot count)
  | .testShot => some .testShot
  | .meterNow => some .meterNow
  | .setCharge charge => some (.setCharge charge)
  | .getPower => some .getPower
  | .readFrames => some .readFrames
  | .releaseFrames count => some (.releaseFrames count)
  | .getLogInfo => some .getLogInfo
  | .readAlerts => some .readAlerts
  | .getLinkStats => some .getLinkStats
  | .setLinkSpeed code => some (.setLinkSpeed code)
  | .frameReceived _ _ _ | .stopBitError _ _ | .lengthError _ | .gapError | .lineBreak | .wakeEdge | .listenExpiry
  | .trialExpiry | .replySent | .powerOnReset | .pinReset | .armedStartReached | .preparationStart
  | .converterJobEnd _ | .meterLead | .settingLead | .focusLead | .settingRecordSent | .replyRecord _ _ _ _ _
  | .accessoryByteError | .replyWindowExpiry | .dueTime | .shutterHoldExpiry | .syncClosure | .syncWindowExpiry
  | .readyChange _ | .dropWatchExpiry | .writeTimeout | .cooldownEnd | .recoveryTimerExpiry | .periodicCompare
  | .temperatureCompare | .heaterPeriodStart | .heaterOffEdge | .sofByte _ | .replyLeadByte | .lrxReturnHigh => none

/-- `s` with a valid frame's request taken into the executing slot: the listen expiry moved, or a speed trial confirmed, by
the frame (R188, R191). -/
def taken (r : Request) (s : State) : State := (validFrame s).modLine fun l => { l with executing := some r }

/-- `s` with the reply to a request in transmission (R190). -/
def replied (r : Request) (status : Status) (data : ReplyData) (s : State) : State :=
  s.modLine fun l => { l with reply := some (replyTo r status data) }

end Sys2Proof.Machine
end

