-- ==== Sys2Proof/Certificates/Slice0/Obligations.lean ====
section
/-! DEFINITION. The statements for the provers, rule by rule: the step, resets, the requests of the host line, the line port,
the sequencer, the meter, the camera and its link, the power monitor, the arithmetic of the exposure, and the invariants. In the
statements about a request, `taken r s` is the state with the request in the executing slot (R188 to R190), `replied` adds its
reply, and `endEvent s` forms what is formed at the end of an event that began in `s`: a state with nothing left to form is
left as it is (`EndOfEventFormsWhatTheRulesForm`). -/

section Slice0Obligations

open Sys2Proof Sys2Proof.Machine

/-! ## The step -/

/-- The queue is served first in, first out: a step takes the command at the front and runs it with the queue's rest. The queue
and its service are the model's choice (entries 1 and 41). -/
def Obligations.StepRunsTheCommandAtTheFront : Prop :=
  ∀ (c : Instr) (s : State), step { s with pending := c :: s.pending } = exec c s

/-- R22, R23. With no command waiting and no compare reached, one tick passes: the run counter and the wall clock advance. Free
are whether a closed SYNC contact has opened (entry 8), whether a byte of the frame under assembly has come and restarted the gap
timer (entry 9), and whether LRX, not awaited high, has fallen, which outside DORMANT starts the break timer, or has returned high,
which ends it (R187, entry 11). With compares reached, the step serves one of them; which one is free. That an idle step is a tick or a compare is the model's choice
(entries 1 and 6). -/
def Obligations.IdleStepTicksOrServesACompare : Prop :=
  (∀ s : State, s.pending = [] → dueCompares s = [] → s.tb.runCounter + 1 < 2 ^ 48 →
     ∃ closed byte fell high : Bool, (closed = true → s.cam.syncClosed = true) ∧
       (fell = true → s.line.awaitHigh = false ∧ s.line.state ≠ .dormant) ∧ (high = true → s.line.awaitHigh = false) ∧
       step s = .next
         { s with
           tb :=
             { runCounter := s.tb.runCounter + 1
               seconds := if s.tb.ticks < 1023 then s.tb.seconds else (s.tb.seconds + 1) % 2 ^ 32
               ticks := if s.tb.ticks < 1023 then s.tb.ticks + 1 else 0
               valid := s.tb.valid }
           cam := { s.cam with syncClosed := closed }
           line :=
             { s.line with
               gapAt := if byte = true ∧ s.line.gapAt ≠ none then some (s.tb.runCounter + 1 + 32) else s.line.gapAt
               breakAt :=
                 if fell = true then some (s.tb.runCounter + 1 + 64) else if high = true then none else s.line.breakAt } }) ∧
  (∀ s : State, s.pending = [] → dueCompares s ≠ [] →
     ∃ c ∈ dueCompares s, ∃ n : Nat, (n = s.choices ∨ n = s.choices + 1) ∧ step s = exec c { s with choices := n })

/-! ## The end of an event -/

/-- What the end of an event forms. Nothing, where nothing is left to form: a reply to a request that changes nothing is such
an event. In every case ATN stands as the set and the mask give it (R199), and both clocks, the program store, the ramp engine, the
frame log and the parameters stand as the event left them. In HOLDING with the camera parked and no seed awaited, HOLD is reached
with its record and HOLD_ENTERED (R129), or ENDED with the ending mark (R128). No job waits for an idle converter (R49, R50). A
changed condition of R161 gives the core state anew. The heater's eligibility is as its conditions give it, with what its gain and
its loss bring (R162). The recovery timer stands in HOLD for POWER alone (R142). A failed keep-on test switches IDLE_ON off (R117).
The order in which they are formed is entry 14. The ending
mark waits for the seed (entry 21), ENDED keeps its two marks and no grid (entries 19 and 20), the heater's first period is entry
28, and R161's third condition never stands between events (entry 13). -/
def Obligations.EndOfEventFormsWhatTheRulesForm : Prop :=
  ((∀ s t : State, Settled t → coreConditions s = coreConditions t ∨ t.pow.core = coreOf t → endEvent s t = t) ∧
   (∀ (r : Request) (st : Status) (d : ReplyData) (s : State), Settled s → Listening s →
     endEvent s (replied r st d (taken r s)) = replied r st d (taken r s))) ∧
  (∀ s t : State, ((endEvent s t).line.atn = true ↔ (endEvent s t).line.alerts &&& (endEvent s t).line.mask ≠ 0) ∧
     (endEvent s t).tb = t.tb ∧ (endEvent s t).prog = t.prog ∧ (endEvent s t).ramp = t.ramp ∧
     (endEvent s t).log = t.log ∧ (endEvent s t).params = t.params ∧
     ((endEvent s t).choices = t.choices ∨ (endEvent s t).choices = t.choices + 1) ∧
     (endEvent s t).pending = t.pending ∧
     (endEvent s t).line = { t.line with alerts := (endEvent s t).line.alerts, atn := (endEvent s t).line.atn }) ∧
  (∀ (h : HoldData) (s t : State), t.seq.state = .holding → t.seq.hold = some h → t.cam.phase ≠ .idleOn →
     (t.cam.frame = none → t.cam.drain = false → t.cam.power = false → t.seq.awaitingSeed = false →
       (t.seq.ending = false → h.fresh = true →
         (endEvent s t).line.alerts = t.line.alerts ||| 0x0001 ∧
         (endEvent s t).seq =
           { t.seq with state := .hold, hold := some { h with f := t.ramp.f, ePrev := t.ramp.ePrev } }) ∧
       (∀ c : Current, t.seq.ending = false → h.fresh = false → t.seq.current = some c →
         (endEvent s t).line.alerts = t.line.alerts ||| 0x0001 ∧
         (endEvent s t).seq =
           { t.seq with
             state := .hold
             hold :=
               some
                 { h with
                   f := t.ramp.f, ePrev := t.ramp.ePrev, exposureCount := c.entry.exposureCount
                   debounce := c.entry.debounce, times := some (c.entry.runTime, c.entry.w0, c.entry.span) } }) ∧
       (t.seq.ending = true →
         (endEvent s t).line.alerts = t.line.alerts ∧
         (endEvent s t).seq =
           { t.seq with
             state := .ended, grid := none, prepRegistered := false, stretchPending := false, awaitingSeed := false
             hold := none })) ∧
     (t.cam.frame ≠ none ∨ t.cam.drain = true ∨ t.cam.power = true ∨ t.seq.awaitingSeed = true →
       (endEvent s t).line.alerts = t.line.alerts ∧ (endEvent s t).seq = t.seq)) ∧
  (∀ s t u : State, u = endEvent s t →
     ((∀ c : MeterClass, isRunning (queueSlot u.meter c) = false) → ∀ c : MeterClass, queueSlot u.meter c = .empty) ∧
     (coreConditions s = coreConditions u → u.pow.core = t.pow.core) ∧
     (coreConditions s ≠ coreConditions u →
       (u.pow.core = .doze ↔ u.line.state = .dormant ∧ u.line.executing = none ∧ u.line.held = none ∧
         (∀ c : MeterClass, isRunning (queueSlot u.meter c) = false) ∧ (u.cam.phase = .off ∨ u.cam.phase = .idleOn))) ∧
     (LevelLaw t →
       (u.pow.eligible = true ↔ (u.seq.state = .running ∨ u.seq.state = .armed) ∧
         u.params.heaterMinLevel ≤ u.pow.budgetLevel ∧ u.pow.voltage = .normal)) ∧
     (t.pow.eligible = false → u.pow.eligible = true →
       u.pow.duty = 0 ∧ u.pow.pendingDuty = 0 ∧ u.pow.temperatureAt = some (t.tb.runCounter + 16384) ∧
       u.pow.heatPeriodAt = some ((t.tb.runCounter + 2047) / 2048 * 2048) ∧ queueSlot u.meter .temperature ≠ .empty) ∧
     (t.pow.eligible = true → u.pow.eligible = false →
       u.pow.heat = false ∧ u.pow.duty = 0 ∧ u.pow.pendingDuty = 0 ∧ u.pow.temperatureAt = none ∧
       u.pow.heatPeriodAt = none ∧ u.pow.heatOffAt = none) ∧
     (u.pow.recovery =
       if u.seq.state = .hold ∧ (u.seq.hold.map fun h => h.cause) = some .power then t.pow.recovery else none) ∧
     (t.cam.phase = .idleOn → keepOnHolds t = false → u.cam.phase = .off ∧ u.cam.power = false) ∧
     (t.cam.phase ≠ .idleOn → u.cam = t.cam))

/-! ## Resets -/

/-- The power-on and pin reset columns of R21, R25, R47, R66, R82, R101, R123, R144, R167, R182 and R201, block by block: nothing
in hand, every compare withdrawn (R25), the accessory receiver's record (R101) and the frame assembler of the line (R201) empty,
the ending mark clear. The two input levels and the queue stay as they are (entry 27). A pin reset keeps the clocks, the banks, the
lock, the run number, the frame counter, the account with its remainder and charge level, the log and the parameters. -/
def Obligations.ResetsGiveTheTablesValues : Prop :=
  (∀ s : State, ∃ t : State, exec .powerOnReset s = .next t ∧
     t.tb = { runCounter := 0, seconds := 0, ticks := 0, valid := false } ∧
     (∀ (n : BankName) (i : Nat), slotOf (bankOf t.prog n) i = none) ∧
     t.prog.active = .a ∧ t.prog.commitPending = false ∧ t.prog.lock = false ∧
     t.seq =
       { state := .idle, stopPending := false, ending := false, runNumber := 0, frameCounter := 0, walkCount := 0,
         current := none, grid := none, lastDue := none, prepRegistered := false, stretchPending := false,
         awaitingSeed := false, armedStart := none, hold := none } ∧
     (∀ c : MeterClass, queueSlot t.meter c = .empty) ∧ t.meter.lLast = none ∧
     t.ramp = { seeded := false, f := 0, ePrev := none, sticky := 0, test := none } ∧
     t.cam.testRecord.state = .none ∧
     t.cam =
       { phase := .off, frame := none, drain := false, cooldownEnd := none, faultCount := 0, settings := none,
         exchange := .idle, assembling := false, setting := none, replyWindowAt := none, shutterAt := none,
         syncWindowAt := none, stage := .none, writeTimeoutAt := none, shut := false, focus := false, power := false,
         ready := s.cam.ready, syncClosed := s.cam.syncClosed, testRecord := t.cam.testRecord } ∧
     t.pow =
       { voltage := .normal, belowCritical := false, reEvaluate := false, battery := none, solar := none,
         temperature := none, account := 7000 * 3600, remainder := 0, lastAccrual := 0, draw := 1800, chargeLevel := 3,
         budgetLevel := 3, core := .run, eligible := false, duty := 0, pendingDuty := 0, heat := false,
         periodicAt := 65536, temperatureAt := none, heatPeriodAt := none, heatOffAt := none, recovery := none } ∧
     t.log = { records := [], readIndex := 0, written := 0, released := 0, overwritten := 0 } ∧
     t.params = Params.defaults ∧
     t.line =
       { state := .dormant, speed := .b9600, oldSpeed := t.line.oldSpeed, switchTo := none, assembling := false,
         gapAt := none, awaitHigh := false, breakAt := none, wakeEdgeAt := none, listenAt := none, trialAt := none,
         executing := none, held := none, reply := none, crcErrors := 0, framingErrors := 0, lengthErrors := 0,
         gapErrors := 0, overrunErrors := 0, alerts := 0, mask := 0x0FFF, atn := false } ∧
     t.pending = s.pending) ∧
  (∀ s : State, ∃ t : State, exec .pinReset s = .next t ∧
     t.tb = s.tb ∧ t.prog = { s.prog with commitPending := false } ∧
     t.seq =
       { state := .idle, stopPending := false, ending := false, runNumber := s.seq.runNumber,
         frameCounter := s.seq.frameCounter, walkCount := 0, current := none, grid := none, lastDue := none,
         prepRegistered := false, stretchPending := false, awaitingSeed := false, armedStart := none, hold := none } ∧
     (∀ c : MeterClass, queueSlot t.meter c = .empty) ∧ t.meter.lLast = none ∧
     t.ramp = { seeded := false, f := 0, ePrev := none, sticky := 0, test := none } ∧
     t.cam.testRecord.state = .none ∧
     t.cam =
       { phase := .off, frame := none, drain := false, cooldownEnd := none, faultCount := 0, settings := none,
         exchange := .idle, assembling := false, setting := none, replyWindowAt := none, shutterAt := none,
         syncWindowAt := none, stage := .none, writeTimeoutAt := none, shut := false, focus := false, power := false,
         ready := s.cam.ready, syncClosed := s.cam.syncClosed, testRecord := t.cam.testRecord } ∧
     t.pow =
       { voltage := .normal, belowCritical := false, reEvaluate := true, battery := none, solar := none,
         temperature := none, account := s.pow.account, remainder := s.pow.remainder,
         lastAccrual := s.tb.runCounter, draw := s.params.dozeCurrent, chargeLevel := s.pow.chargeLevel,
         budgetLevel := s.pow.chargeLevel, core := .doze, eligible := false, duty := 0, pendingDuty := 0,
         heat := false, periodicAt := (s.tb.runCounter / 65536 + 1) * 65536, temperatureAt := none,
         heatPeriodAt := none, heatOffAt := none, recovery := none } ∧
     t.log = s.log ∧ t.params = s.params ∧
     t.line =
       { state := .dormant, speed := .b9600, oldSpeed := t.line.oldSpeed, switchTo := none, assembling := false,
         gapAt := none, awaitHigh := false, breakAt := none, wakeEdgeAt := none, listenAt := none, trialAt := none,
         executing := none, held := none, reply := none, crcErrors := 0, framingErrors := 0, lengthErrors := 0,
         gapErrors := 0, overrunErrors := 0, alerts := 0, mask := 0x0FFF, atn := false } ∧
     t.pending = s.pending)

/-- R21, R82, R182: the three columns of the tables of the program store, the ramp engine and the frame log: power-on reset,
pin reset, line break. -/
def Obligations.ResetsOfTheStoreTheRampAndTheLog : Prop :=
  ∀ s : State,
    (∃ t : State, exec .powerOnReset s = .next t ∧
      (∀ (n : BankName) (i : Nat), slotOf (bankOf t.prog n) i = none) ∧ t.prog.active = .a ∧
      t.prog.commitPending = false ∧ t.prog.lock = false ∧
      t.ramp.seeded = false ∧ t.ramp.f = 0 ∧ t.ramp.ePrev = none ∧ t.ramp.sticky = 0 ∧ t.ramp.test = none ∧
      t.params.logSize = 256 ∧ t.log.records = [] ∧ t.log.readIndex = 0 ∧ t.log.written = 0 ∧ t.log.released = 0 ∧
      t.log.overwritten = 0) ∧
    (∃ t : State, exec .pinReset s = .next t ∧
      t.prog = { s.prog with commitPending := false } ∧
      t.ramp.seeded = false ∧ t.ramp.f = 0 ∧ t.ramp.ePrev = none ∧ t.ramp.sticky = 0 ∧ t.ramp.test = none ∧
      t.params.logSize = s.params.logSize ∧ t.log = s.log) ∧
    (∀ at_ : Nat, s.line.breakAt = some at_ → at_ ≤ s.tb.runCounter →
      ∃ t : State, exec .lineBreak s = .next t ∧ t.prog = s.prog ∧ t.ramp = s.ramp ∧
        t.params.logSize = s.params.logSize ∧ t.log = s.log)

/-! ## Command slots and read-backs -/

/-- R189, with R188 and R191 for the frame that carries the request: executing slot empty, held slot empty, both full. A
request row that comes in DORMANT is handed to the slots like any other (entry 4), with no expiry to move. The frame's last stop bit
was high, so that no break is timing any more (entry 11). -/
def Obligations.RequestsArePlacedInTheCommandSlots : Prop :=
  ∀ (c : Instr) (r : Request) (s : State), requestOf c = some r →
    (s.line.executing = none → exec c s = .next (endEvent s (executeRequest r (validFrame s)))) ∧
    (s.line.executing ≠ none → s.line.held = none →
      exec c s = .next (endEvent s ((validFrame s).modLine fun l => { l with held := some r }))) ∧
    (s.line.executing ≠ none → s.line.held ≠ none →
      exec c s = .next (endEvent s ((validFrame s).modLine fun l =>
        { l with overrunErrors := min (l.overrunErrors + 1) 65535, alerts := l.alerts ||| 0x0200 }))) ∧
    (s.line.state = .listening →
      validFrame s =
        { s with line := { s.line with listenAt := some (s.tb.runCounter + 2048), breakAt := none } }) ∧
    (s.line.state = .speedTrial →
      validFrame s =
        { s with
          line :=
            { s.line with
              state := .listening, trialAt := none, listenAt := some (s.tb.runCounter + 2048), breakAt := none } }) ∧
    (s.line.state = .dormant → validFrame s = s)

/-- R195: IDENTIFY's four values, and the four parts of GET_STATUS with the items that R32, R130, R65, R68, R104 and R122
list; any other part is refused. Nothing changes but the slot and the reply. The next due is that of the grid that stands, the
frozen one in HOLDING and HOLD (R126); in ENDED no grid stands, which is the model's reading (entry 20). -/
def Obligations.IdentifyAndGetStatusReadBack : Prop :=
  ∀ s : State, Listening s →
    exec .identify s = .next (endEvent s (replied .identify .ok (.identify 48 1 24 64) (taken .identify s))) ∧
    exec (.getStatus 0) s = .next (endEvent s (replied (.getStatus 0) .ok
      (.sequencer
        { state := s.seq.state, stopPending := s.seq.stopPending, runNumber := s.seq.runNumber
          frameCounter := s.seq.frameCounter, slot := s.seq.current.map fun c => c.slot
          exposureCount := s.seq.current.map fun c => c.entry.exposureCount
          debounce := s.seq.current.map fun c => c.entry.debounce, walkCount := s.seq.walkCount
          nextDue := s.seq.grid.map fun g => g.anchor + g.index * (g.interval * g.factor)
          armedStart := if s.seq.state = .armed then s.seq.armedStart else none
          timebase := s.tb
          holdCause := s.seq.hold.map fun h => h.cause, latch := s.seq.hold.bind fun h => h.latch
          ending := s.seq.ending })
      (taken (.getStatus 0) s))) ∧
    exec (.getStatus 1) s = .next (endEvent s (replied (.getStatus 1) .ok
      (.meterRamp
        { lLast := s.meter.lLast, converter := runningClass s.meter
          waiting := [MeterClass.frame, .battery, .temperature, .solar, .host].filter fun c =>
            isWaiting (queueSlot s.meter c)
          seeded := s.ramp.seeded, f := s.ramp.f, ePrev := s.ramp.ePrev, sticky := s.ramp.sticky })
      (taken (.getStatus 1) s))) ∧
    exec (.getStatus 2) s = .next (endEvent s (replied (.getStatus 2) .ok
      (.camera
        { phase := s.cam.phase, drain := s.cam.drain, cooldownEnd := s.cam.cooldownEnd, shut := s.cam.shut
          focus := s.cam.focus, power := s.cam.power, ready := s.cam.ready, syncClosed := s.cam.syncClosed
          inHand := s.cam.frame.bind fun f => if f.kind = .run then some f.number else none
          testShot := decide ((s.cam.frame.map fun f => f.kind) = some .test), faultCount := s.cam.faultCount
          settings := s.cam.settings, exchange := s.cam.exchange })
      (taken (.getStatus 2) s))) ∧
    exec (.getStatus 3) s =
      .next (endEvent s (replied (.getStatus 3) .ok (.testRecord s.cam.testRecord) (taken (.getStatus 3) s))) ∧
    (∀ part : Byte, 4 ≤ part.toNat →
      exec (.getStatus part) s =
        .next (endEvent s (replied (.getStatus part) .badField (.field 1) (taken (.getStatus part) s))))

/-! ## Parameters -/

/-- R196: the ids, each with its own parameter, its range and its default, the five whose range has its own form, and what the
three resets do; an id outside the table names no parameter. R198: GET_PARAM returns the value as stored and changes nothing; an id
not in the table is refused. Storing a value under an id changes that parameter alone, but that a new V_low lowers V_crit to
V_low − 100 where V_crit lies above that, and leaves it otherwise (R147); the alert mask is line port state. A negative sync window
is stored as 0 (entry 29). -/
def Obligations.ParametersHaveTheTablesRangesAndDefaults : Prop :=
  (∀ row ∈
      [((0x01 : Byte), ParamId.sampleCount, (0 : Int), (3 : Int), (2 : Int)), (0x02, .calibration, -128, 127, 0),
        (0x03, .k, -512, 511, 0), (0x04, .overhead, 0, 65535, 2048), (0x05, .bulbThreshold, -48, 64, -32),
        (0x06, .linkPresent, 0, 1, 1), (0x10, .wakeLead, 1024, 20480, 3072), (0x12, .settingLead, 64, 1024, 256),
        (0x13, .focusLead, 0, 1024, 256), (0x15, .writeTimeout, 2048, 614400, 30720),
        (0x16, .keepOnThreshold, 0, 614400, 30720), (0x17, .faultLimit, 1, 15, 3), (0x20, .autoResume, 0, 1, 1),
        (0x30, .capacity, 100, 65000, 7000), (0x31, .runCurrent, 0, 65535, 1800), (0x32, .dozeCurrent, 0, 65535, 25),
        (0x33, .cameraCurrent, 0, 2000000, 420000), (0x34, .heaterCurrent, 0, 2000000, 600000),
        (0x35, .frameCharge, 0, 1000, 3), (0x36, .vLow, 6000, 16000, 11600), (0x38, .hysteresis, 50, 2000, 300),
        (0x39, .stretch0, 1, 8, 4), (0x3A, .stretch1, 1, 8, 2), (0x3B, .stretch2, 1, 8, 1), (0x3C, .stretch3, 1, 8, 1),
        (0x3D, .heaterMinLevel, 0, 3, 2), (0x3E, .tOn, -800, 800, 40), (0x3F, .slope, 0, 255, 16),
        (0x40, .dutyMax, 0, 255, 192)],
    paramOf row.1 = some row.2.1 ∧ paramValue Params.defaults 0x0FFF row.2.1 = row.2.2.2.2 ∧
      ∀ (p : Params) (v : Word), paramInRange p row.2.1 v = max row.2.2.1 (min row.2.2.2.1 v.toInt)) ∧
  (∀ id : Byte,
    id ∉ [(0x01 : Byte), 0x02, 0x03, 0x04, 0x05, 0x06, 0x10, 0x11, 0x12, 0x13, 0x14, 0x15, 0x16, 0x17, 0x20, 0x30, 0x31,
        0x32, 0x33, 0x34, 0x35, 0x36, 0x37, 0x38, 0x39, 0x3A, 0x3B, 0x3C, 0x3D, 0x3E, 0x3F, 0x40, 0x50, 0x60] →
      paramOf id = none) ∧
  (paramOf 0x11 = some .meterLead ∧ Params.defaults.meterLead = 384 ∧
    ∀ (p : Params) (v : Word),
      paramInRange p .meterLead v = max (max 64 (min 1024 v.toInt)) ((p.settingLead : Int) + 64)) ∧
  (paramOf 0x14 = some .syncWindow ∧ Params.defaults.syncWindow = 256 ∧
    ∀ (p : Params) (v : Word),
      paramInRange p .syncWindow v = if v.toInt ≤ 0 then 0 else max 16 (min 1024 v.toInt)) ∧
  (paramOf 0x37 = some .vCrit ∧ Params.defaults.vCrit = 11000 ∧
    ∀ (p : Params) (v : Word),
      paramInRange p .vCrit v = min (max 5000 (min 15900 v.toInt)) ((p.vLow : Int) - 100)) ∧
  (paramOf 0x50 = some .logSize ∧ Params.defaults.logSize = 256 ∧
    ∀ (p : Params) (v : Word),
      (v.toInt ≤ 64 → paramInRange p .logSize v = 64) ∧
      (64 < v.toInt → v.toInt ≤ 128 → paramInRange p .logSize v = 128) ∧
      (128 < v.toInt → v.toInt ≤ 256 → paramInRange p .logSize v = 256) ∧
      (256 < v.toInt → paramInRange p .logSize v = 512)) ∧
  (paramOf 0x60 = some .alertMask ∧ LinePort.reset.mask = 0x0FFF ∧
    ∀ (p : Params) (v : Word), paramInRange p .alertMask v = ((v &&& 0x0FFF).toNat : Int)) ∧
  (∀ (p : Params) (m : Half),
    paramValue p m .sampleCount = p.sampleCount ∧ paramValue p m .calibration = p.calibration ∧
    paramValue p m .k = p.k ∧ paramValue p m .overhead = p.overhead ∧
    paramValue p m .bulbThreshold = p.bulbThreshold ∧ paramValue p m .linkPresent = p.linkPresent ∧
    paramValue p m .wakeLead = p.wakeLead ∧ paramValue p m .meterLead = p.meterLead ∧
    paramValue p m .settingLead = p.settingLead ∧ paramValue p m .focusLead = p.focusLead ∧
    paramValue p m .syncWindow = p.syncWindow ∧ paramValue p m .writeTimeout = p.writeTimeout ∧
    paramValue p m .keepOnThreshold = p.keepOnThreshold ∧ paramValue p m .faultLimit = p.faultLimit ∧
    paramValue p m .autoResume = p.autoResume ∧ paramValue p m .capacity = p.capacity ∧
    paramValue p m .runCurrent = p.runCurrent ∧ paramValue p m .dozeCurrent = p.dozeCurrent ∧
    paramValue p m .cameraCurrent = p.cameraCurrent ∧ paramValue p m .heaterCurrent = p.heaterCurrent ∧
    paramValue p m .frameCharge = p.frameCharge ∧ paramValue p m .vLow = p.vLow ∧ paramValue p m .vCrit = p.vCrit ∧
    paramValue p m .hysteresis = p.hysteresis ∧ paramValue p m .stretch0 = p.stretch0 ∧
    paramValue p m .stretch1 = p.stretch1 ∧ paramValue p m .stretch2 = p.stretch2 ∧
    paramValue p m .stretch3 = p.stretch3 ∧ paramValue p m .heaterMinLevel = p.heaterMinLevel ∧
    paramValue p m .tOn = p.tOn ∧ paramValue p m .slope = p.slope ∧ paramValue p m .dutyMax = p.dutyMax ∧
    paramValue p m .logSize = p.logSize ∧ paramValue p m .alertMask = m.toNat) ∧
  (∀ s : State,
    (∃ t : State, exec .powerOnReset s = .next t ∧ t.params = Params.defaults ∧ t.line.mask = 0x0FFF) ∧
    (∃ t : State, exec .pinReset s = .next t ∧ t.params = s.params) ∧
    ∃ t : State, exec .lineBreak s = .next t ∧ t.params = s.params) ∧
  (∀ (id : Byte) (s : State), Listening s →
    (∀ q : ParamId, paramOf id = some q →
      exec (.getParam id) s = .next (endEvent s (replied (.getParam id) .ok
        (.parameter id (paramValue s.params s.line.mask q)) (taken (.getParam id) s)))) ∧
    (paramOf id = none →
      exec (.getParam id) s =
        .next (endEvent s (replied (.getParam id) .badField (.field 1) (taken (.getParam id) s))))) ∧
  (∀ (p : Params) (m : Half) (q : ParamId) (v : Word), q ≠ .alertMask → ParamLaw p →
    paramValue (storeParam p q (paramInRange p q v)) m q = paramInRange p q v ∧
    ∀ q' : ParamId, q' ≠ q → ¬(q = .vLow ∧ q' = .vCrit) →
      paramValue (storeParam p q (paramInRange p q v)) m q' = paramValue p m q') ∧
  (∀ (p : Params) (m : Half) (v : Word),
    paramValue (storeParam p .vLow (paramInRange p .vLow v)) m .vCrit =
      if paramInRange p .vLow v - 100 < p.vCrit then paramInRange p .vLow v - 100 else p.vCrit)

/-- R197: the five steps of SET_PARAM. The owners' tests of step 4 are those of the frame overhead and of the log size alone;
`applyParameter` is the owner's act in the event. A value already held is accepted and changes nothing, the read index of the log
among it (entry 26), unless V_low lowers V_crit (R147). CLAMPED is the reply where step 3 changed any value: a V_crit lowered, or a
meter lead above 1024, though the raise to the setting lead + 64 may give back the value sent (R106). -/
def Obligations.SetParamIsExaminedInOrder : Prop :=
  (∀ (id : Byte) (value : Word) (s : State), Listening s →
    (paramOf id = none →
      exec (.setParam id value) s = .next (endEvent s
        (replied (.setParam id value) .badField (.field 1) (taken (.setParam id value) s)))) ∧
    (1 ≤ id.toNat → id.toNat ≤ 5 → s.prog.lock = true → s.seq.state ≠ .hold →
      exec (.setParam id value) s = .next (endEvent s
        (replied (.setParam id value) .locked .empty (taken (.setParam id value) s)))) ∧
    (∀ q : ParamId, paramOf id = some q →
      ¬(1 ≤ id.toNat ∧ id.toNat ≤ 5 ∧ s.prog.lock = true ∧ s.seq.state ≠ .hold) →
      (∀ d : ReplyData, ownerTest q (paramInRange s.params q value) s = some d →
        exec (.setParam id value) s = .next (endEvent s
          (replied (.setParam id value) .badState d (taken (.setParam id value) s)))) ∧
      (ownerTest q (paramInRange s.params q value) s = none →
        exec (.setParam id value) s = .next (endEvent s (replied (.setParam id value)
          (if paramInRange s.params q value = value.toInt ∧
            ¬(q = .vLow ∧ paramInRange s.params q value - 100 < s.params.vCrit) ∧
            ¬(q = .meterLead ∧ 1024 < value.toInt) then .ok else .clamped)
          (.parameter id (paramInRange s.params q value))
          (applyParameter q (paramInRange s.params q value) (taken (.setParam id value) s))))) ∧
      (q ≠ .overhead → q ≠ .logSize → ∀ v : Int, ownerTest q v s = none))) ∧
  (∀ (q : ParamId) (s : State),
    ¬(q = .vLow ∧ paramValue s.params s.line.mask q - 100 < s.params.vCrit) →
    applyParameter q (paramValue s.params s.line.mask q) s = s)

/-- R79: the frame overhead's test against the active bank, and against the staged bank while a commit is pending. R181: a
log that holds a record refuses a new size; an empty one takes the smallest size not below the value, with the read index at 0. A
size already held changes nothing (R197, entry 26). -/
def Obligations.OverheadAndLogSizeAreTestedByTheirOwners : Prop :=
  (∀ (value : Word) (s : State), Listening s →
     (s.prog.lock = true → s.seq.state ≠ .hold →
       exec (.setParam 0x04 value) s = .next (endEvent s
         (replied (.setParam 0x04 value) .locked .empty (taken (.setParam 0x04 value) s)))) ∧
     (¬(s.prog.lock = true ∧ s.seq.state ≠ .hold) →
       (∀ i : Nat, FirstShort (max 0 (min 65535 value.toInt)).toNat (activeBank s.prog) i →
         exec (.setParam 0x04 value) s = .next (endEvent s
           (replied (.setParam 0x04 value) .badState (.slotBank i s.prog.active) (taken (.setParam 0x04 value) s)))) ∧
       (∀ i : Nat, NoneShort (max 0 (min 65535 value.toInt)).toNat (activeBank s.prog) → s.prog.commitPending = true →
         FirstShort (max 0 (min 65535 value.toInt)).toNat (stagedBank s.prog) i →
         exec (.setParam 0x04 value) s = .next (endEvent s
           (replied (.setParam 0x04 value) .badState (.slotBank i (otherBank s.prog.active))
             (taken (.setParam 0x04 value) s)))) ∧
       (NoneShort (max 0 (min 65535 value.toInt)).toNat (activeBank s.prog) →
         (s.prog.commitPending = true → NoneShort (max 0 (min 65535 value.toInt)).toNat (stagedBank s.prog)) →
         exec (.setParam 0x04 value) s = .next (endEvent s (replied (.setParam 0x04 value)
           (if max 0 (min 65535 value.toInt) = value.toInt then .ok else .clamped)
           (.parameter 0x04 (max 0 (min 65535 value.toInt)))
           { taken (.setParam 0x04 value) s with
             params := { s.params with overhead := (max 0 (min 65535 value.toInt)).toNat } }))))) ∧
  (∀ (value : Word) (s : State), Listening s →
     (s.log.records ≠ [] →
       exec (.setParam 0x50 value) s = .next (endEvent s
         (replied (.setParam 0x50 value) .badState .empty (taken (.setParam 0x50 value) s)))) ∧
     (∀ size ∈ [(64 : Nat), 128, 256, 512], s.log.records = [] →
       (value.toInt ≤ size ∨ size = 512) → (size = 64 ∨ (size : Int) / 2 < value.toInt) →
       (s.params.logSize ≠ size →
         exec (.setParam 0x50 value) s = .next (endEvent s (replied (.setParam 0x50 value)
           (if value.toInt = size then .ok else .clamped) (.parameter 0x50 size)
           { taken (.setParam 0x50 value) s with
             params := { s.params with logSize := size }, log := { s.log with readIndex := 0 } }))) ∧
       (s.params.logSize = size →
         exec (.setParam 0x50 value) s = .next (endEvent s (replied (.setParam 0x50 value)
           (if value.toInt = size then .ok else .clamped) (.parameter 0x50 size)
           (taken (.setParam 0x50 value) s))))))

/-- What the owner of a parameter does in SET_PARAM's event with a value not yet held: nothing more for most; an accrual at
the old draw for the four currents (R154), the account under a new capacity and the levels (R151), the mask (R199), and for the
stretch factor in force the grid of R46: at the last due with index 1, or one preparation lead after now with index 0, or kept for
the boundary of the frame in flight. With no last due the grid is anchored as at entry (entry 18), and the keep-on test comes after
the re-anchoring (R160, entry 14). A change during a frame is kept as a mark (entry 15), and a powered camera's lead is the effective meter lead
(entry 17). A value already held does nothing (entry 26). -/
def Obligations.SetParamActsOnItsOwner : Prop :=
  (∀ (q : ParamId) (v : Int) (s : State), paramValue s.params s.line.mask q ≠ v →
    (q ∉ [ParamId.runCurrent, .dozeCurrent, .cameraCurrent, .heaterCurrent, .capacity, .logSize, .alertMask, .stretch0,
        .stretch1, .stretch2, .stretch3] →
      applyParameter q v s = { s with params := storeParam s.params q v }) ∧
    (q ∈ [ParamId.runCurrent, .dozeCurrent, .cameraCurrent, .heaterCurrent] →
      ∃ t : State, t = accrual s ∧
        applyParameter q v s =
          { t with
            params := storeParam t.params q v
            pow := { t.pow with draw := drawOf (storeParam t.params q v) t.pow.core t.cam.power t.pow.heat } }) ∧
    (q = .capacity → 0 ≤ v →
      applyParameter q v s = settleLevels
        { s with
          params := { s.params with capacity := v.toNat }
          pow := { s.pow with account := min s.pow.account (v.toNat * 3600) } }) ∧
    (q = .alertMask →
      applyParameter q v s = { s with line := { s.line with mask := BitVec.ofInt 16 v } }) ∧
    (∀ level : Nat, (q, level) ∈ [(ParamId.stretch0, 0), (.stretch1, 1), (.stretch2, 2), (.stretch3, 3)] →
      (level ≠ s.pow.budgetLevel → applyParameter q v s = { s with params := storeParam s.params q v }) ∧
      (level = s.pow.budgetLevel →
        (s.seq.state ≠ .running ∨ s.seq.current = none →
          applyParameter q v s = keepOnTest { s with params := storeParam s.params q v }) ∧
        (s.seq.state = .running → s.seq.current ≠ none → frameInFlight s = true →
          applyParameter q v s =
            keepOnTest { s with params := storeParam s.params q v, seq := { s.seq with stretchPending := true } }) ∧
        (∀ (g : Grid) (soonest : Nat), s.seq.state = .running → s.seq.current ≠ none → frameInFlight s = false →
          s.seq.grid = some g →
          soonest = s.tb.runCounter +
            (if s.cam.phase = .off ∨ s.cam.phase = .cooldown then s.params.wakeLead
            else max s.params.meterLead (s.params.settingLead + 64)) →
          (∀ d : Nat, s.seq.lastDue = some d → soonest ≤ d + g.interval * v.toNat →
            applyParameter q v s =
              keepOnTest
                { s with
                  params := storeParam s.params q v
                  seq :=
                    { s.seq with
                      grid := some { anchor := d, index := 1, interval := g.interval, factor := v.toNat }
                      stretchPending := false } }) ∧
          (s.seq.lastDue = none ∨ (∃ d : Nat, s.seq.lastDue = some d ∧ d + g.interval * v.toNat < soonest) →
            applyParameter q v s =
              keepOnTest
                { s with
                  params := storeParam s.params q v
                  seq :=
                    { s.seq with
                      grid := some { anchor := soonest, index := 0, interval := g.interval, factor := v.toNat }
                      stretchPending := false } }))))) ∧
  (∀ (q : ParamId) (s : State), q ≠ .vLow → applyParameter q (paramValue s.params s.line.mask q) s = s)

/-! ## The program store -/

/-- R8, R9: what refuses PUT_SEGMENT, in the order of the examination. A refused request leaves the store as it was. A record with
no failing field, and only such a record, passes the examination, with the clamped segment that
`PutSegmentStoresTheClampedRecord` stores. -/
def Obligations.PutSegmentIsRefusedInFieldOrder : Prop :=
  ∀ (slot : Byte) (r : SegmentRecord) (bad : Option Nat),
    bad =
      (if 24 ≤ slot.toNat then some 0 else if 5 ≤ r.gateKind.toNat then some 1
        else if 7 ≤ r.termKind.toNat then some 4 else if 3 ≤ r.nextKind.toNat then some 6
        else if r.nextKind.toNat = 1 ∧ 24 ≤ r.jump.toNat then some 7 else if 3 ≤ r.expMode.toNat then some 9
        else if 2 ≤ r.rounding.toNat then some 18
        else if max (-208) (min 192 r.dMax.toInt) < max (-208) (min 192 r.dMin.toInt) then some 15 else none) →
    (bad = none ↔ ∃ g : Segment, checkSegment slot r = .ok g) ∧
    ∀ s : State, Listening s →
      (s.prog.lock = true → s.seq.state ≠ .hold →
        exec (.putSegment slot r) s =
          .next (endEvent s (replied (.putSegment slot r) .locked .empty (taken (.putSegment slot r) s)))) ∧
      (¬(s.prog.lock = true ∧ s.seq.state ≠ .hold) → s.prog.commitPending = true →
        exec (.putSegment slot r) s =
          .next (endEvent s (replied (.putSegment slot r) .pending .empty (taken (.putSegment slot r) s)))) ∧
      (¬(s.prog.lock = true ∧ s.seq.state ≠ .hold) → s.prog.commitPending = false → ∀ n : Nat, bad = some n →
        exec (.putSegment slot r) s =
          .next (endEvent s (replied (.putSegment slot r) .badField (.field n) (taken (.putSegment slot r) s))))

/-- R10, with R3, R4 and R7 for the ranges by kind: every numeric field goes to the nearer end of its range, the clamped set
has exactly the bits of the fields that changed, and the slot of the staged bank takes the record; every other slot of both
banks reads as before. Which records `checkSegment` passes is stated by `PutSegmentIsRefusedInFieldOrder`. -/
def Obligations.PutSegmentStoresTheClampedRecord : Prop :=
  ∀ (slot : Byte) (r : SegmentRecord) (g : Segment) (s : State), Listening s →
    ¬(s.prog.lock = true ∧ s.seq.state ≠ .hold) → s.prog.commitPending = false → checkSegment slot r = .ok g →
    (∃ (p : ProgramStore),
      exec (.putSegment slot r) s = .next (endEvent s (replied (.putSegment slot r)
        (if clampedFields r g = 0 then .ok else .clamped)
        (.written (otherBank s.prog.active) (clampedFields r g))
        { taken (.putSegment slot r) s with prog := p })) ∧
      p.active = s.prog.active ∧ p.commitPending = s.prog.commitPending ∧ p.lock = s.prog.lock ∧
      ∀ (n : BankName) (i : Nat),
        slotOf (bankOf p n) i =
          if n = otherBank s.prog.active ∧ i = slot.toNat then some g else slotOf (bankOf s.prog n) i) ∧
    (gateKindOf r.gateKind = some g.gate ∧ termKindOf r.termKind = some g.term ∧ nextKindOf r.nextKind = some g.next ∧
      exposureModeOf r.expMode = some g.mode ∧ roundingOf r.rounding = some g.rounding ∧ g.jump = r.jump.toNat) ∧
    (g.interval = max 1024 (min 88473600 r.interval.toNat) ∧ g.fixedE = max (-208) (min 288 r.fixedE.toInt) ∧
      g.biasStart = max (-128) (min 128 r.biasStart.toInt) ∧ g.biasEnd = max (-128) (min 128 r.biasEnd.toInt) ∧
      g.smoothing = min 7 r.smoothing.toNat ∧ g.slew = max 1 (min 64 r.slew.toNat) ∧
      g.dMin = max (-208) (min 192 r.dMin.toInt) ∧ g.dMax = max (-208) (min 192 r.dMax.toInt) ∧
      g.gMax = min 96 r.gMax.toNat) ∧
    (g.gateArg1 =
        match g.gate with
        | .always => r.gateArg1.toInt
        | .day | .night => max (-256) (min 383 r.gateArg1.toInt)
        | .window => max 0 (min 1439 r.gateArg1.toInt)
        | .level => max 0 (min 3 r.gateArg1.toInt)) ∧
    (g.gateArg2 = if g.gate = .window then max 0 (min 1439 r.gateArg2.toInt) else r.gateArg2.toInt) ∧
    (match g.term with
      | .frames => g.termArg.toNat = max 1 (min 65535 r.termArg.toNat)
      | .duration => g.termArg.toNat = max 1 (min 4000000 r.termArg.toNat)
      | .clock => g.termArg.toNat = min 1439 r.termArg.toNat
      | .lightBelow | .lightAbove => g.termArg.toInt = max (-256) (min 383 r.termArg.toInt)
      | .levelBelow => g.termArg.toNat = max 1 (min 3 r.termArg.toNat)
      | .forever => g.termArg = r.termArg) ∧
    (∀ n : Nat, n < 24 →
      ((clampedFields r g).getLsbD n = true ↔
        (n = 2 ∧ g.gateArg1 ≠ r.gateArg1.toInt) ∨ (n = 3 ∧ g.gateArg2 ≠ r.gateArg2.toInt) ∨
        (n = 5 ∧ g.termArg ≠ r.termArg) ∨ (n = 8 ∧ g.interval ≠ r.interval.toNat) ∨
        (n = 10 ∧ g.fixedE ≠ r.fixedE.toInt) ∨ (n = 11 ∧ g.biasStart ≠ r.biasStart.toInt) ∨
        (n = 12 ∧ g.biasEnd ≠ r.biasEnd.toInt) ∨ (n = 13 ∧ g.smoothing ≠ r.smoothing.toNat) ∨
        (n = 14 ∧ g.slew ≠ r.slew.toNat) ∨ (n = 15 ∧ g.dMin ≠ r.dMin.toInt) ∨ (n = 16 ∧ g.dMax ≠ r.dMax.toInt) ∨
        (n = 17 ∧ g.gMax ≠ r.gMax.toNat)))

/-- R11: READ_SEGMENT reads the bank that has the selected role now, and changes nothing. R12: CLEAR_STAGED empties the
staged bank and leaves the active bank, or is refused. R20: LOCK_PROGRAM sets the lock. -/
def Obligations.StoreIsReadClearedAndLocked : Prop :=
  (∀ (slot selector : Byte) (s : State), Listening s →
     (24 ≤ slot.toNat →
       exec (.readSegment slot selector) s = .next (endEvent s
         (replied (.readSegment slot selector) .badField (.field 0) (taken (.readSegment slot selector) s)))) ∧
     (slot.toNat < 24 → 2 ≤ selector.toNat →
       exec (.readSegment slot selector) s = .next (endEvent s
         (replied (.readSegment slot selector) .badField (.field 1) (taken (.readSegment slot selector) s)))) ∧
     (slot.toNat < 24 → selector = 0 →
       exec (.readSegment slot selector) s = .next (endEvent s
         (replied (.readSegment slot selector) .ok
           (.content s.prog.active (slotOf (activeBank s.prog) slot.toNat)) (taken (.readSegment slot selector) s)))) ∧
     (slot.toNat < 24 → selector = 1 →
       exec (.readSegment slot selector) s = .next (endEvent s
         (replied (.readSegment slot selector) .ok
           (.content (otherBank s.prog.active) (slotOf (stagedBank s.prog) slot.toNat))
           (taken (.readSegment slot selector) s))))) ∧
  (∀ s : State, Listening s →
     (s.prog.lock = true → s.seq.state ≠ .hold →
       exec .clearStaged s = .next (endEvent s (replied .clearStaged .locked .empty (taken .clearStaged s)))) ∧
     (¬(s.prog.lock = true ∧ s.seq.state ≠ .hold) → s.prog.commitPending = true →
       exec .clearStaged s = .next (endEvent s (replied .clearStaged .pending .empty (taken .clearStaged s)))) ∧
     (¬(s.prog.lock = true ∧ s.seq.state ≠ .hold) → s.prog.commitPending = false →
       ∃ p : ProgramStore,
         exec .clearStaged s = .next (endEvent s (replied .clearStaged .ok (.bank (otherBank s.prog.active))
           { taken .clearStaged s with prog := p })) ∧
         p.active = s.prog.active ∧ p.commitPending = s.prog.commitPending ∧ p.lock = s.prog.lock ∧
         activeBank p = activeBank s.prog ∧ ∀ i : Nat, slotOf (stagedBank p) i = none) ∧
     exec .lockProgram s = .next (endEvent s (replied .lockProgram .ok .empty
       { taken .lockProgram s with prog := { s.prog with lock := true } })))

/-- R13: the program check passes a bank exactly when slot 0 is defined and every defined slot passes the three tests, and
otherwise reports the first failure in slot order, with the first of the three reasons. -/
def Obligations.ProgramCheckReportsTheFirstFailure : Prop :=
  ∀ (overhead : Nat) (b : Bank),
    (slotOf b 0 = none → programCheck overhead b = some (0, .slot0Empty)) ∧
    (slotOf b 0 ≠ none →
      (programCheck overhead b = none ↔
        ∀ (i : Nat) (g : Segment), slotOf b i = some g →
          (g.next = .next → slotOf b (i + 1) ≠ none) ∧ (g.next = .jump → slotOf b g.jump ≠ none) ∧
          overhead + 1024 ≤ g.interval) ∧
      ∀ (i : Nat) (reason : CheckReason), programCheck overhead b = some (i, reason) →
        (∃ g : Segment, slotOf b i = some g ∧
          ((reason = .nextUndefined ∧ g.next = .next ∧ slotOf b (i + 1) = none) ∨
            (reason = .jumpUndefined ∧ g.next = .jump ∧ slotOf b g.jump = none) ∨
            (reason = .intervalShort ∧ ¬(g.next = .next ∧ slotOf b (i + 1) = none) ∧
              ¬(g.next = .jump ∧ slotOf b g.jump = none) ∧ g.interval < overhead + 1024))) ∧
        ∀ (j : Nat) (g : Segment), j < i → slotOf b j = some g →
          (g.next = .next → slotOf b (j + 1) ≠ none) ∧ (g.next = .jump → slotOf b g.jump ≠ none) ∧
          overhead + 1024 ≤ g.interval)

/-- R14: the six steps of COMMIT's examination, with the result and the bank that each accepted COMMIT reports. -/
def Obligations.CommitIsExaminedInOrder : Prop :=
  ∀ s : State, Listening s →
    (s.prog.lock = true → s.seq.state ≠ .hold →
      exec .commit s = .next (endEvent s (replied .commit .locked .empty (taken .commit s)))) ∧
    (¬(s.prog.lock = true ∧ s.seq.state ≠ .hold) → s.prog.commitPending = true →
      exec .commit s = .next (endEvent s (replied .commit .pending .empty (taken .commit s)))) ∧
    (¬(s.prog.lock = true ∧ s.seq.state ≠ .hold) → s.prog.commitPending = false →
      (s.seq.state = .holding →
        exec .commit s = .next (endEvent s (replied .commit .badState .empty (taken .commit s)))) ∧
      (s.seq.state = .idle ∨ s.seq.state = .ended → testInFlight s = true →
        exec .commit s = .next (endEvent s (replied .commit .busy .empty (taken .commit s)))) ∧
      (s.seq.state ≠ .holding → ¬((s.seq.state = .idle ∨ s.seq.state = .ended) ∧ testInFlight s = true) →
        (∀ (i : Nat) (reason : CheckReason), programCheck s.params.overhead (stagedBank s.prog) = some (i, reason) →
          exec .commit s =
            .next (endEvent s (replied .commit .invalidProgram (.check i reason) (taken .commit s)))) ∧
        (programCheck s.params.overhead (stagedBank s.prog) = none →
          (s.seq.state = .running → frameInFlight s = true →
            exec .commit s = .next (endEvent s (replied .commit .ok (.commit true (otherBank s.prog.active))
              { taken .commit s with prog := { s.prog with commitPending := true } }))) ∧
          (¬(s.seq.state = .running ∧ frameInFlight s = true) →
            ∃ t : State,
              exec .commit s = .next (endEvent s (replied .commit .ok (.commit false (otherBank s.prog.active)) t)) ∧
              t.prog = { s.prog with active := otherBank s.prog.active, commitPending := false }) ∧
          (s.seq.state = .idle ∨ s.seq.state = .ended ∨ s.seq.state = .armed →
            exec .commit s = .next (endEvent s (replied .commit .ok (.commit false (otherBank s.prog.active))
              { taken .commit s with
                prog := { s.prog with active := otherBank s.prog.active, commitPending := false } }))))))

/-- R15, R16, R19: what a swap made at once does. In HOLD the resume point moves to slot 0 with exposure count 0, marked fresh,
and the rest of the record stays; the entry times of a fresh point are absent (R130, entry 22), and a run held from ARMED has no
resume point to move. In RUNNING COMMIT_DONE is raised and the walk enters slot 0 of the new active bank, unless the seed is
outstanding. -/
def Obligations.CommitSwapsAndRestartsTheWalk : Prop :=
  ∀ s : State, Listening s → ¬(s.prog.lock = true ∧ s.seq.state ≠ .hold) → s.prog.commitPending = false →
    programCheck s.params.overhead (stagedBank s.prog) = none →
    (∀ h : HoldData, s.seq.state = .hold → s.seq.hold = some h → h.heldFrom = .running →
      exec .commit s = .next (endEvent s (replied .commit .ok (.commit false (otherBank s.prog.active))
        { taken .commit s with
          prog := { s.prog with active := otherBank s.prog.active, commitPending := false }
          seq :=
            { s.seq with
              hold := some { h with resumeSlot := some 0, fresh := true, exposureCount := 0, times := none } } }))) ∧
    (∀ h : HoldData, s.seq.state = .hold → s.seq.hold = some h → h.heldFrom = .armed →
      exec .commit s = .next (endEvent s (replied .commit .ok (.commit false (otherBank s.prog.active))
        { taken .commit s with
          prog := { s.prog with active := otherBank s.prog.active, commitPending := false } }))) ∧
    (s.seq.state = .running → frameInFlight s = false → s.seq.awaitingSeed = true →
      exec .commit s = .next (endEvent s (replied .commit .ok (.commit false (otherBank s.prog.active))
        (raiseAlert .commitDone
          { taken .commit s with
            prog := { s.prog with active := otherBank s.prog.active, commitPending := false } })))) ∧
    (s.seq.state = .running → frameInFlight s = false → s.seq.awaitingSeed = false → s.seq.current ≠ none →
      exec .commit s = .next (endEvent s (replied .commit .ok (.commit false (otherBank s.prog.active))
        (walkFrom 0 0 (raiseAlert .commitDone
          { taken .commit s with
            prog := { s.prog with active := otherBank s.prog.active, commitPending := false } })))))

/-! ## Walking -/

/-- R33 to R36, R42: one entry of a walk. A true gate makes the slot current with a new entry record and anchors the grid; a
false gate passes the walk on, and so does a slot whose LEVEL_BELOW is true at its entry; the twenty-fourth entry holds with cause
LOOP before its gate is looked at. R3, R35: the five gates, the window wrapping past midnight where its start is the greater. -/
def Obligations.WalkEntersSlotsInOrder : Prop :=
  (∀ (fuel slot count : Nat) (s : State),
    (23 ≤ s.seq.walkCount →
      walk (fuel + 1) slot count s =
        holdEntry .loop (.stoppedAt slot) { s with seq := { s.seq with walkCount := s.seq.walkCount + 1 } }) ∧
    (s.seq.walkCount < 23 → gateTrue s (segmentAt s slot) = true →
      ¬((segmentAt s slot).term = .levelBelow ∧ s.pow.budgetLevel < (segmentAt s slot).termArg.toNat) →
      ∃ t : State, t = walk (fuel + 1) slot count s ∧
        t = { s with seq := t.seq } ∧ t.seq.walkCount = s.seq.walkCount + 1 ∧
        (∃ e : Entry, t.seq.current = some { slot := slot, entry := e } ∧ e.runTime = s.tb.runCounter ∧
          e.w0 = (if s.tb.valid = true then some s.tb.seconds else none) ∧
          e.span =
            (if s.tb.valid = true ∧ (segmentAt s slot).term = .clock then
              some (clockSpan (segmentAt s slot).termArg.toNat s.tb.seconds)
            else none) ∧
          e.exposureCount = count ∧ e.debounce = 0) ∧
        (∃ g : Grid, t.seq.grid = some g ∧ g.index = 0 ∧ g.interval = (segmentAt s slot).interval ∧
          g.factor = stretch s ∧
          g.anchor =
            match s.seq.lastDue with
            | some d => max (d + (segmentAt s slot).interval * stretch s) (s.tb.runCounter + preparationLead s)
            | none => s.tb.runCounter + preparationLead s) ∧
        t.seq.prepRegistered = true ∧ t.seq.state = s.seq.state ∧ t.seq.lastDue = s.seq.lastDue ∧
        t.seq.frameCounter = s.seq.frameCounter ∧ t.seq.runNumber = s.seq.runNumber) ∧
    (s.seq.walkCount < 23 → gateTrue s (segmentAt s slot) = false →
      walk (fuel + 1) slot count s =
        match (segmentAt s slot).next with
        | .next => walk fuel (slot + 1) 0 { s with seq := { s.seq with walkCount := s.seq.walkCount + 1 } }
        | .jump =>
          walk fuel (segmentAt s slot).jump 0 { s with seq := { s.seq with walkCount := s.seq.walkCount + 1 } }
        | .finish => programEnded { s with seq := { s.seq with walkCount := s.seq.walkCount + 1 } }) ∧
    (∀ u : State, s.seq.walkCount < 23 → gateTrue s (segmentAt s slot) = true →
      (segmentAt s slot).term = .levelBelow → s.pow.budgetLevel < (segmentAt s slot).termArg.toNat →
      u =
        { s with
          seq :=
            { s.seq with
              walkCount := s.seq.walkCount + 1
              current :=
                some
                  { slot := slot
                    entry :=
                      { runTime := s.tb.runCounter, w0 := if s.tb.valid = true then some s.tb.seconds else none
                        span := none, exposureCount := count, debounce := 0 } } } } →
      walk (fuel + 1) slot count s =
        match (segmentAt s slot).next with
        | .next => walk fuel (slot + 1) 0 u
        | .jump => walk fuel (segmentAt s slot).jump 0 u
        | .finish => programEnded u)) ∧
  (∀ (s : State) (g : Segment),
    (g.gate = .always → gateTrue s g = true) ∧
    (∀ l : Int, s.meter.lLast = some l →
      (g.gate = .day → (gateTrue s g = true ↔ g.gateArg1 ≤ l)) ∧
      (g.gate = .night → (gateTrue s g = true ↔ l < g.gateArg1))) ∧
    (g.gate = .window → s.tb.valid = false → gateTrue s g = false) ∧
    (∀ m : Nat, g.gate = .window → s.tb.valid = true → m = s.tb.seconds % 86400 / 60 →
      (gateTrue s g = true ↔
        (g.gateArg1 < g.gateArg2 ∧ g.gateArg1 ≤ m ∧ m < g.gateArg2) ∨
          (g.gateArg2 < g.gateArg1 ∧ (g.gateArg1 ≤ m ∨ m < g.gateArg2)))) ∧
    (g.gate = .level → (gateTrue s g = true ↔ g.gateArg1 ≤ s.pow.budgetLevel)))

/-- The seven termination kinds. R40: the span to minute X is in 1..86,400 seconds and ends at minute X, and CLOCK is true exactly
from the crossing on, with the difference of the seconds counts signed; a pending W0 is taken at the first evaluation with the clock
valid (entry 23). R39, R41: FRAMES by the exposure count, DURATION by the run time in the segment, LEVEL_BELOW by the budget level,
LIGHT by a debounce count of 3, FOREVER never. -/
def Obligations.ClockTerminationMeasuresTheCrossing : Prop :=
  (∀ minute w0 : Nat, 1 ≤ clockSpan minute w0 ∧ clockSpan minute w0 ≤ 86400 ∧
    (w0 + clockSpan minute w0) % 86400 = minute * 60 % 86400) ∧
  (∀ (s : State) (g : Segment) (e : Entry), g.term = .clock →
    (∀ w0 span : Nat, e.w0 = some w0 → e.span = some span →
      (terminationTrue s g e = true ↔ (span : Int) ≤ (s.tb.seconds : Int) - (w0 : Int))) ∧
    (e.w0 = none → terminationTrue s g e = false ∧
      (s.tb.valid = true →
        (takeW0 s.tb g e).w0 = some s.tb.seconds ∧
        (takeW0 s.tb g e).span = some (clockSpan g.termArg.toNat s.tb.seconds) ∧
        terminationTrue s g (takeW0 s.tb g e) = false))) ∧
  (∀ (s : State) (g : Segment) (e : Entry),
    (g.term = .frames → (terminationTrue s g e = true ↔ g.termArg.toNat ≤ e.exposureCount)) ∧
    (g.term = .duration → e.runTime ≤ s.tb.runCounter →
      (terminationTrue s g e = true ↔ e.runTime + g.termArg.toNat * 1024 ≤ s.tb.runCounter)) ∧
    (g.term = .lightBelow ∨ g.term = .lightAbove → (terminationTrue s g e = true ↔ e.debounce = 3)) ∧
    (g.term = .levelBelow → (terminationTrue s g e = true ↔ s.pow.budgetLevel < g.termArg.toNat)) ∧
    (g.term = .forever → terminationTrue s g e = false) ∧
    (takeW0 s.tb g e).runTime = e.runTime ∧ (takeW0 s.tb g e).exposureCount = e.exposureCount ∧
    (takeW0 s.tb g e).debounce = e.debounce ∧ (e.w0 ≠ none ∨ s.tb.valid = false → takeW0 s.tb g e = e))

/-! ## The clock, run control -/

/-- R24: the clock takes the two values, ticks above 1023 as 1023, and the reply gives the clock as it stood. In ARMED, a
kept start time that the new clock reaches begins the run in the same event (entry 35). R28, R124: the kept start time reached in
ARMED begins the run, with the seed metering requested; while the voltage is CRITICAL the cause POWER arises in the same event.
The start time is given up as the run begins (entry 40). A row sent before that time has no effect (entry 2). -/
def Obligations.ClockIsSetAndArmedStartIsReached : Prop :=
  (∀ (seconds : Word) (ticks : Half) (s : State), Listening s →
     (s.seq.state ≠ .armed ∨ (∃ k : Nat, s.seq.armedStart = some k ∧ seconds.toNat < k) →
       exec (.setClock seconds ticks) s = .next (endEvent s (replied (.setClock seconds ticks)
         (if ticks.toNat ≤ 1023 then .ok else .clamped) (.clock s.tb.seconds s.tb.ticks s.tb.valid)
         { taken (.setClock seconds ticks) s with
           tb := { s.tb with seconds := seconds.toNat, ticks := min ticks.toNat 1023, valid := true } }))) ∧
     (∀ k : Nat, s.seq.state = .armed → s.seq.armedStart = some k → k ≤ seconds.toNat →
       exec (.setClock seconds ticks) s = .next (endEvent s (replied (.setClock seconds ticks)
         (if ticks.toNat ≤ 1023 then .ok else .clamped) (.clock s.tb.seconds s.tb.ticks s.tb.valid)
         (runBegin { taken (.setClock seconds ticks) s with
           tb := { s.tb with seconds := seconds.toNat, ticks := min ticks.toNat 1023, valid := true } }))))) ∧
  (∀ (k : Nat) (s : State), s.seq.state = .armed → s.seq.armedStart = some k →
     (k ≤ s.tb.seconds →
       ∃ t : State,
         t = meterRequest .frame .seed (segmentAt s 0).rounding
           { s with seq := { s.seq with state := .running, awaitingSeed := true, armedStart := none } } ∧
         (s.pow.voltage ≠ .critical → exec .armedStartReached s = .next (endEvent s t)) ∧
         (s.pow.voltage = .critical → s.seq.stopPending = false →
           exec .armedStartReached s = .next (endEvent s (holdEntry .power .current t)))) ∧
     (s.tb.seconds < k → exec .armedStartReached s = .next s))

/-- R27, R28: START's examination, and what an accepted START sets, the fault count among it (R115). With no start time, or one
not later than the clock, the run begins: RUNNING, with the seed metering requested. Otherwise the sequencer is ARMED. While the
voltage is CRITICAL the cause POWER arises at that entry (R124). The ending mark cleared is entry 19, the kept start time given up
entry 40. -/
def Obligations.StartBeginsOrArmsARun : Prop :=
  ∀ (time : Option Word) (s : State), Listening s →
    (s.seq.state = .armed ∨ s.seq.state = .running ∨ s.seq.state = .holding ∨ s.seq.state = .hold →
      exec (.start time) s = .next (endEvent s (replied (.start time) .badState .empty (taken (.start time) s)))) ∧
    (s.seq.state = .idle ∨ s.seq.state = .ended →
      (testInFlight s = true →
        exec (.start time) s = .next (endEvent s (replied (.start time) .busy .empty (taken (.start time) s)))) ∧
      (testInFlight s = false →
        (∀ (i : Nat) (reason : CheckReason), programCheck s.params.overhead (activeBank s.prog) = some (i, reason) →
          exec (.start time) s =
            .next (endEvent s (replied (.start time) .badState (.check i reason) (taken (.start time) s)))) ∧
        (programCheck s.params.overhead (activeBank s.prog) = none →
          (time ≠ none → s.tb.valid = false →
            exec (.start time) s =
              .next (endEvent s (replied (.start time) .badState .empty (taken (.start time) s)))) ∧
          (∀ begun : State,
            begun = meterRequest .frame .seed (segmentAt s 0).rounding
              { taken (.start time) s with
                seq :=
                  { s.seq with
                    state := .running, stopPending := false, ending := false
                    runNumber := s.seq.runNumber % 255 + 1, frameCounter := 0, walkCount := 0, current := none
                    grid := none, lastDue := none, prepRegistered := false, stretchPending := false
                    awaitingSeed := true, armedStart := none }
                ramp := { s.ramp with seeded := false, f := 0, ePrev := none, sticky := 0 }
                cam := { s.cam with settings := none, faultCount := 0 } } →
            (time = none ∨ (s.tb.valid = true ∧ ∃ t, time = some t ∧ t.toNat ≤ s.tb.seconds) →
              exec (.start time) s = .next (endEvent s (replied (.start time) .ok (.run (s.seq.runNumber % 255 + 1))
                (if s.pow.voltage = .critical then holdEntry .power .current begun else begun))))) ∧
          (∀ (t : Word) (armed : State), time = some t → s.tb.valid = true → s.tb.seconds < t.toNat →
            armed =
              { taken (.start time) s with
                seq :=
                  { s.seq with
                    state := .armed, stopPending := false, ending := false
                    runNumber := s.seq.runNumber % 255 + 1, frameCounter := 0, walkCount := 0, current := none
                    grid := none, lastDue := none, prepRegistered := false, stretchPending := false
                    awaitingSeed := false, armedStart := some t.toNat }
                ramp := { s.ramp with seeded := false, f := 0, ePrev := none, sticky := 0 }
                cam := { s.cam with settings := none, faultCount := 0 } } →
            exec (.start time) s = .next (endEvent s (replied (.start time) .ok (.run (s.seq.runNumber % 255 + 1))
              (if s.pow.voltage = .critical then holdEntry .power .current armed else armed)))))))

/-- R30: STOP by state. A frame cancelled before EXPOSING leaves one ABORTED record with cause STOP, and resolves a pending commit
(R18); the record holds what the frame had reached (R173, R175); a frame in EXPOSING or WRITING leaves the run RUNNING with the mark; in HOLDING the ending mark is set. That no grid stands
in ENDED is entry 20, that the two marks are kept there is entry 19. -/
def Obligations.StopActsByState : Prop :=
  ∀ s : State, Listening s →
    (s.seq.state = .idle ∨ s.seq.state = .ended →
      exec .stop s = .next (endEvent s (replied .stop .badState .empty (taken .stop s)))) ∧
    (s.seq.state = .armed ∨ s.seq.state = .hold ∨
        (s.seq.state = .running ∧ s.seq.stopPending = false ∧ frameInFlight s = false) →
      exec .stop s = .next (endEvent s (replied .stop .ok .empty
        { taken .stop s with
          seq :=
            { s.seq with
              state := .ended, grid := none, prepRegistered := false, stretchPending := false, awaitingSeed := false
              hold := none } }))) ∧
    (s.seq.state = .holding →
      exec .stop s = .next (endEvent s (replied .stop .ok .empty
        { taken .stop s with seq := { s.seq with ending := true } }))) ∧
    (s.seq.state = .running → s.seq.stopPending = true →
      exec .stop s = .next (endEvent s (replied .stop .ok .empty (taken .stop s)))) ∧
    (s.seq.state = .running → s.seq.stopPending = false → frameInFlight s = true →
      (s.cam.phase = .exposing ∨ s.cam.phase = .writing →
        exec .stop s = .next (endEvent s (replied .stop .ok .empty
          { taken .stop s with seq := { s.seq with stopPending := true } }))) ∧
      (∀ f : Frame, s.cam.frame = some f →
        s.cam.phase = .waking ∨ s.cam.phase = .preparing ∨ s.cam.phase = .setting ∨ s.cam.phase = .waitDue →
        ∃ (t : State) (r : LogRecord), exec .stop s = .next (endEvent s (replied .stop .ok .empty t)) ∧
          t.seq.state = .ended ∧ t.seq.grid = none ∧ t.seq.frameCounter = s.seq.frameCounter ∧
          t.seq.runNumber = s.seq.runNumber ∧ t.cam.frame = none ∧ t.cam.power = false ∧ t.cam.focus = false ∧
          t.cam.exchange = .idle ∧ t.cam.phase = (if s.cam.cooldownEnd = none then .off else .cooldown) ∧
          t.cam.faultCount = s.cam.faultCount ∧ t.log = storeRecord s.params.logSize r s.log ∧
          r.outcome = .aborted ∧ r.cause = .stop ∧ r.frame = f.number ∧ r.run = s.seq.runNumber ∧
          r.segment = f.slot ∧ r.value = 0 ∧ RecordsFrame s f r ∧ r.level = t.pow.budgetLevel ∧ t.tb = s.tb ∧
          t.prog =
            (if s.prog.commitPending = true then
              { s.prog with active := otherBank s.prog.active, commitPending := false }
            else s.prog) ∧
          (s.prog.commitPending = true → t.line.alerts &&& 0x0008 ≠ 0) ∧ t.ramp = s.ramp ∧
          t.params = s.params ∧ t.meter = s.meter))

/-! ## Hold and resume -/

/-- R125: HOLD's replies by state. An accepted HOLD from ARMED or RUNNING is hold entry with cause HOST in the event, and the
reply names the state after it; in HOLDING and HOLD it fills an empty latch and sets the host-requested mark. -/
def Obligations.HoldRepliesByState : Prop :=
  ∀ s : State, Listening s →
    (s.seq.state = .idle ∨ s.seq.state = .ended ∨ (s.seq.state = .running ∧ s.seq.stopPending = true) ∨
        (s.seq.state = .holding ∧ s.seq.ending = true) →
      exec .hold s = .next (endEvent s (replied .hold .badState .empty (taken .hold s)))) ∧
    (s.seq.state = .armed ∨ (s.seq.state = .running ∧ s.seq.stopPending = false) →
      exec .hold s = .next (endEvent s (replied .hold .ok
        (.holdState (holdEntry .host .current (taken .hold s)).seq.state false)
        (holdEntry .host .current (taken .hold s))))) ∧
    (∀ h : HoldData, s.seq.hold = some h →
      s.seq.state = .hold ∨ (s.seq.state = .holding ∧ s.seq.ending = false) →
      (h.latch = none →
        exec .hold s = .next (endEvent s (replied .hold .ok (.holdState s.seq.state true)
          { taken .hold s with
            seq := { s.seq with hold := some { h with latch := some .host, hostRequested := true } } }))) ∧
      (h.latch ≠ none →
        exec .hold s = .next (endEvent s (replied .hold .busy .empty (taken .hold s)))))

/-- R126, R127, R129, R131: hold entry by what the camera has in hand. With nothing in hand and the camera off, the cause, the
state it came from, the slot and the times are recorded, and HOLD is reached at once, with HOLD_ENTERED, unless a seed metering is
outstanding; the resume point is the current slot with its entry record, the slot a LOOP stopped (R34), slot 0 after a swap (R18), or
slot 0 before the seed. An IDLE_ON camera is switched off. A frame before EXPOSING is cancelled (R118); one in EXPOSING is cut and
drains (R119), both with an ABORTED record of what the frame had reached (R173, R175); one in WRITING drains to its own outcome. The trap is recorded as the cause found it. Counts 0 and absent times of a
point with no entry record are entries 22 and 44. -/
def Obligations.HoldEntryWithNothingInHandReachesHold : Prop :=
  (∀ (cause : HoldCause) (point : HoldPoint) (s : State), s.cam.frame = none → s.cam.drain = false →
    s.cam.phase = .off ∨ s.cam.phase = .cooldown → s.cam.power = false →
    ∃ t : State, t = holdEntry cause point s ∧
      t = { s with seq := t.seq, line := { s.line with alerts := t.line.alerts } } ∧
      t.seq.prepRegistered = false ∧ t.seq.ending = false ∧ t.seq.grid = s.seq.grid ∧ t.seq.lastDue = s.seq.lastDue ∧
      t.seq.armedStart = s.seq.armedStart ∧ t.seq.frameCounter = s.seq.frameCounter ∧
      (∃ h : HoldData, t.seq.hold = some h ∧ h.cause = cause ∧ (h.hostRequested = true ↔ cause = .host) ∧
        h.heldFrom = (if s.seq.state = .armed then .armed else .running) ∧ h.latch = none ∧ h.trapPhase = none ∧
        h.trapFrame = none ∧ h.trapExposure = none ∧ h.elapsed = 0 ∧ h.entryRunTime = s.tb.runCounter ∧
        h.entrySeconds = s.tb.seconds ∧ h.entryTicks = s.tb.ticks ∧ h.entryInvalid = !s.tb.valid ∧
        h.f = s.ramp.f ∧ h.ePrev = s.ramp.ePrev ∧ (∀ g : Grid, s.seq.grid = some g → h.stretch = g.factor) ∧
        (s.seq.state = .running → s.seq.awaitingSeed = false → point = .current → ∀ c : Current, s.seq.current = some c →
          h.resumeSlot = some c.slot ∧ h.causeSlot = some c.slot ∧ h.fresh = false ∧
          h.exposureCount = c.entry.exposureCount ∧ h.debounce = c.entry.debounce ∧
          h.times = some (c.entry.runTime, c.entry.w0, c.entry.span)) ∧
        (∀ k : Nat, s.seq.state = .running → s.seq.awaitingSeed = false → point = .stoppedAt k →
          h.resumeSlot = some k ∧ h.causeSlot = some k ∧ h.fresh = true ∧ h.exposureCount = 0 ∧ h.debounce = 0 ∧
          h.times = none) ∧
        (s.seq.state = .running → s.seq.awaitingSeed = false → point = .swapped →
          h.resumeSlot = some 0 ∧ h.causeSlot = (s.seq.current.map fun c => c.slot) ∧ h.fresh = true ∧
          h.exposureCount = 0 ∧ h.debounce = 0 ∧ h.times = none) ∧
        (s.seq.state = .running → s.seq.awaitingSeed = true →
          h.resumeSlot = some 0 ∧ h.causeSlot = none ∧ h.fresh = true ∧ h.exposureCount = 0 ∧ h.times = none) ∧
        (s.seq.state = .armed → h.resumeSlot = none ∧ h.causeSlot = none ∧ h.fresh = false)) ∧
      (s.seq.awaitingSeed = false → t.seq.state = .hold ∧ t.line.alerts = s.line.alerts ||| 0x0001) ∧
      (s.seq.awaitingSeed = true → t.seq.state = .holding ∧ t.line.alerts = s.line.alerts)) ∧
  (∀ (cause : HoldCause) (point : HoldPoint) (s : State), s.cam.frame = none → s.cam.drain = false →
    s.cam.phase = .idleOn → s.cam.power = true → s.seq.awaitingSeed = false →
    ∃ t : State, t = holdEntry cause point s ∧ t.seq.state = .hold ∧ t.seq.grid = s.seq.grid ∧
      t.cam = { s.cam with phase := .off, power := false } ∧ t.pow.lastAccrual = s.tb.runCounter ∧
      t.line.alerts = s.line.alerts ||| 0x0001 ∧ t.log = s.log ∧ t.ramp = s.ramp ∧ t.prog = s.prog ∧
      ∃ h : HoldData, t.seq.hold = some h ∧ h.cause = cause ∧ h.trapPhase = none ∧ h.trapFrame = none) ∧
  (∀ (cause : HoldCause) (f : Frame) (c : Current) (s : State), s.seq.state = .running → s.seq.awaitingSeed = false →
    s.seq.current = some c → s.cam.frame = some f → f.kind = .run → s.cam.drain = false →
    ∃ (t : State) (h : HoldData), t = holdEntry cause .current s ∧ t.seq.hold = some h ∧ h.cause = cause ∧
      h.heldFrom = .running ∧ h.latch = none ∧ h.causeSlot = some c.slot ∧ h.trapPhase = some s.cam.phase ∧
      h.trapFrame = some f.number ∧ h.entryRunTime = s.tb.runCounter ∧
      h.elapsed = (if s.cam.phase = .exposing then s.tb.runCounter - f.due else 0) ∧
      (s.cam.phase = .waking ∨ s.cam.phase = .preparing → h.trapExposure = none) ∧
      (∀ e : Exposure, f.exposure = some e →
        (s.cam.phase = .setting →
          h.trapExposure =
            some { mode := e.mode, value := if e.mode = .bulb then (e.ticks : Int) else e.sReq, gain := e.gReq }) ∧
        (s.cam.phase = .waitDue ∨ s.cam.phase = .exposing ∨ s.cam.phase = .writing →
          h.trapExposure = e.applied.map fun a => { mode := e.mode, value := a.value, gain := a.gain })) ∧
      t.seq.grid = s.seq.grid ∧ t.seq.lastDue = s.seq.lastDue ∧ t.seq.frameCounter = s.seq.frameCounter ∧
      t.seq.prepRegistered = false ∧ t.cam.faultCount = s.cam.faultCount ∧ t.ramp = s.ramp ∧ t.tb = s.tb ∧
      t.params = s.params ∧
      (s.cam.phase = .waking ∨ s.cam.phase = .preparing ∨ s.cam.phase = .setting ∨ s.cam.phase = .waitDue →
        t.seq.state = .hold ∧ t.cam.frame = none ∧ t.cam.power = false ∧ t.cam.focus = false ∧ t.cam.exchange = .idle ∧
        t.cam.phase = (if s.cam.cooldownEnd = none then .off else .cooldown) ∧ t.line.alerts &&& 0x0001 ≠ 0) ∧
      (s.cam.phase = .exposing →
        t.seq.state = .holding ∧ t.pow = s.pow ∧
        t.cam =
          { s.cam with
            phase := .writing, shut := false, focus := false, shutterAt := none, syncWindowAt := none, frame := none
            drain := true
            stage := if s.cam.ready = true then .dropWatch (s.tb.runCounter + 32) else .inProgress
            writeTimeoutAt := some (s.tb.runCounter + s.params.writeTimeout) }) ∧
      (s.cam.phase = .writing → t.seq.state = .holding ∧ t = { s with seq := t.seq } ∧ h.resumeSlot = some c.slot) ∧
      (s.cam.phase = .waking ∨ s.cam.phase = .preparing ∨ s.cam.phase = .setting ∨ s.cam.phase = .waitDue ∨
          s.cam.phase = .exposing →
        (∃ r : LogRecord, t.log = storeRecord s.params.logSize r s.log ∧ r.outcome = .aborted ∧ r.cause = .hold ∧
          r.frame = f.number ∧ r.run = s.seq.runNumber ∧ r.segment = f.slot ∧ r.value = h.elapsed ∧
          RecordsFrame s f r ∧ r.level = t.pow.budgetLevel) ∧
        (s.prog.commitPending = false → t.prog = s.prog ∧ h.resumeSlot = some c.slot ∧ h.fresh = false) ∧
        (s.prog.commitPending = true →
          t.prog = { s.prog with active := otherBank s.prog.active, commitPending := false } ∧
          t.line.alerts &&& 0x0008 ≠ 0 ∧ h.resumeSlot = some 0 ∧ h.fresh = true ∧ h.exposureCount = 0)) ∧
      (s.cam.phase = .waking ∨ s.cam.phase = .preparing ∨ s.cam.phase = .setting ∨ s.cam.phase = .waitDue →
        s.prog.commitPending = false →
        h.exposureCount = c.entry.exposureCount ∧ h.debounce = c.entry.debounce ∧
        h.times = some (c.entry.runTime, c.entry.w0, c.entry.span)))

/-- R136: RESUME's examination, and the re-entry that a second cause makes, the latched one or POWER while the voltage is
CRITICAL: no frame, no GAP record, a new cause and new times, the rest of the record kept. -/
def Obligations.ResumeIsExaminedAndMayReenter : Prop :=
  ∀ (mode : Byte) (s : State), Listening s →
    (s.seq.state ≠ .hold →
      exec (.resume mode) s = .next (endEvent s (replied (.resume mode) .badState .empty (taken (.resume mode) s)))) ∧
    (∀ h : HoldData, s.seq.state = .hold → s.seq.hold = some h →
      (2 ≤ mode.toNat →
        exec (.resume mode) s =
          .next (endEvent s (replied (.resume mode) .badField (.field 1) (taken (.resume mode) s)))) ∧
      (mode.toNat < 2 → h.cause = .power → s.pow.voltage = .critical →
        exec (.resume mode) s =
          .next (endEvent s (replied (.resume mode) .badState .empty (taken (.resume mode) s)))) ∧
      (∀ cause : HoldCause, mode.toNat < 2 → ¬(h.cause = .power ∧ s.pow.voltage = .critical) →
        h.latch = some cause ∨ (h.latch = none ∧ s.pow.voltage = .critical ∧ cause = .power) →
        exec (.resume mode) s = .next (endEvent s (replied (.resume mode) .ok (.reentered cause)
          { taken (.resume mode) s with
            cam := { s.cam with faultCount := 0 }
            seq :=
              { s.seq with
                walkCount := 0
                hold :=
                  some
                    { h with
                      cause := cause, hostRequested := decide (cause = .host), latch := none, f := s.ramp.f
                      ePrev := s.ramp.ePrev, entryRunTime := s.tb.runCounter, entrySeconds := s.tb.seconds
                      entryTicks := s.tb.ticks, entryInvalid := !s.tb.valid } }
            line :=
              { (taken (.resume mode) s).line with
                alerts := s.line.alerts ||| 0x0001 } }))))

/-- R137: the GAP record of a resume. The dues are those of the frozen grid at the interval now in force, from the anchor
when no frame of the grid was numbered and otherwise after the last due; c of them lie before now + wake lead. The record
takes the next number, and the frame counter, the grid and the last due move past the c dues. The record's segment is the slot at
the cause (R174); a grid with no such slot, which no run has, would give 0 (entry 33). -/
def Obligations.ResumeNumbersTheLostDuesInOneGap : Prop :=
  ∀ (h : HoldData) (g : Grid) (last : Nat) (s : State), s.seq.grid = some g → 1 ≤ g.interval → 1 ≤ stretch s →
    g.index = 0 ∨ s.seq.lastDue = some last →
    let step := g.interval * stretch s
    let first := if g.index = 0 then g.anchor else last + step
    let c := duesLost s g
    let t := takeGap h s
    (∀ k : Nat, first + k * step < s.tb.runCounter + s.params.wakeLead ↔ k < c) ∧
    (∃ g' : Grid, t.seq.grid = some g' ∧ g'.nextDue = first + c * step ∧ g'.iEff = step) ∧
    (c = 0 → t.log = s.log ∧ t.seq.frameCounter = s.seq.frameCounter ∧ t.seq.lastDue = s.seq.lastDue) ∧
    (1 ≤ c →
      t.seq.lastDue = some (first + (c - 1) * step) ∧
      t.seq.frameCounter = (s.seq.frameCounter + c - 1) % 4294967295 + 1 ∧
      t.log = storeRecord s.params.logSize
        { outcome := .gap, run := s.seq.runNumber, frame := s.seq.frameCounter % 4294967295 + 1
          segment := h.causeSlot.getD 0
          flags :=
            (if h.entryInvalid = true then (0x0400 : Half) else 0) ||| (if 1 < stretch s then (0x0200 : Half) else 0)
          cause := .gap h.cause, dueSeconds := h.entrySeconds, dueTicks := h.entryTicks, lAvg := none, eT := none
          mode := none, value := c, gain := none, residual := none, level := s.pow.budgetLevel } s.log)

/-- R138 to R141: an accepted RESUME with no second cause. A held segment whose termination is false is current again with the
record's entry; with SKIP, or with nothing trapped, it goes on along its grid, and with RETRY a trapped frame is followed by a retry
frame due at now + wake lead, whose battery sample is entry 34. With the wake lead equal to the setting lead, that lead is reached at
its handing, and the retry frame is MISSED, or computed, in the event (R107 to R109). A termination that is true walks on. A fresh resume point is walked
into with the record's count. A run held from ARMED is ARMED again, or begins when its start time has passed, which is then given up (entry 40). The reply gives the
GAP, the retry frame's number, and the next due of the grid that stands (entry 45 where none does). -/
def Obligations.ResumeSkipContinuesTheHeldSegment : Prop :=
  ∀ (mode : Byte) (h : HoldData) (s t : State) (gap : Option (Nat × Nat)), Listening s → s.seq.state = .hold →
    s.seq.hold = some h → h.latch = none → s.pow.voltage ≠ .critical → mode = 0 ∨ mode = 1 →
    t = takeGap h
      { taken (.resume mode) s with
        cam := { s.cam with faultCount := 0 }
        seq :=
          { s.seq with state := .running, walkCount := 0, hold := none, prepRegistered := false, stretchPending := false } } →
    gap =
      (s.seq.grid.bind fun g =>
        if duesLost s g = 0 then none else some (s.seq.frameCounter % 4294967295 + 1, duesLost s g)) →
    (∀ (g : Grid) (k t0 : Nat) (w0 span : Option Nat) (e : Entry) (u : State), h.heldFrom = .running → h.fresh = false →
      s.seq.grid = some g → h.resumeSlot = some k → h.times = some (t0, w0, span) →
      e = takeW0 s.tb (segmentAt s k)
        { runTime := t0, w0 := w0, span := span, exposureCount := h.exposureCount, debounce := h.debounce } →
      u = { t with seq := { t.seq with current := some { slot := k, entry := e } } } →
      (terminationTrue s (segmentAt s k) e = true →
        exec (.resume mode) s = .next (endEvent s (replied (.resume mode) .ok
          (.resumed gap none ((walkNext k u).seq.grid.map fun g' => g'.nextDue)) (walkNext k u)))) ∧
      (terminationTrue s (segmentAt s k) e = false →
        mode = 1 ∨ (h.trapPhase ≠ some .setting ∧ h.trapPhase ≠ some .waitDue ∧ h.trapPhase ≠ some .exposing) →
        exec (.resume mode) s = .next (endEvent s (replied (.resume mode) .ok
          (.resumed gap none (t.seq.grid.map fun g' => g'.nextDue))
          { u with seq := { u.seq with prepRegistered := true } }))) ∧
      (∀ g' : Grid, terminationTrue s (segmentAt s k) e = false → mode = 0 →
        h.trapPhase = some .setting ∨ h.trapPhase = some .waitDue ∨ h.trapPhase = some .exposing →
        t.seq.grid = some g' →
        s.prog.commitPending = false →
        ∃ v : State,
          exec (.resume mode) s = .next (endEvent s (replied (.resume mode) .ok
            (.resumed gap (some (t.seq.frameCounter % 4294967295 + 1)) (v.seq.grid.map fun g => g.nextDue)) v)) ∧
          v.seq.frameCounter = t.seq.frameCounter % 4294967295 + 1 ∧ v.prog.active = s.prog.active ∧ v.tb = s.tb ∧
          (s.cam.phase = .off ∨ s.cam.phase = .cooldown → s.params.settingLead < s.params.wakeLead →
            ∃ (f : Frame) (g'' : Grid),
              g'' =
                (if g'.nextDue ≤ s.tb.runCounter + s.params.wakeLead then { g' with index := g'.index + 1 } else g') ∧
              v.seq.state = .running ∧ v.seq.grid = some g'' ∧ v.seq.prepRegistered = true ∧ v.seq.walkCount = 0 ∧
              v.seq.current = some { slot := k, entry := e } ∧ v.seq.frameCounter = f.number ∧
              v.seq.lastDue = some (s.tb.runCounter + s.params.wakeLead) ∧ v.cam.frame = some f ∧
              v.cam.power = (s.cam.power || decide (s.cam.phase = .off)) ∧ v.cam.cooldownEnd = s.cam.cooldownEnd ∧
              f.kind = .run ∧ f.number = t.seq.frameCounter % 4294967295 + 1 ∧
              f.due = s.tb.runCounter + s.params.wakeLead ∧ f.slot = k ∧ f.iEff = g'.iEff ∧ f.exposure = none ∧
              (v.cam.phase = .waking ∨ v.cam.phase = .preparing) ∧ queueSlot v.meter .battery ≠ .empty ∧
              v.log = t.log ∧ v.ramp = s.ramp ∧ v.prog = s.prog) ∧
          (s.cam.phase = .off ∨ s.cam.phase = .cooldown → s.params.settingLead = s.params.wakeLead → s.cam.ready = false →
            ∃ r : LogRecord,
              v.log = storeRecord s.params.logSize r t.log ∧ r.outcome = .missed ∧ r.cause = .cameraWake ∧
              r.frame = t.seq.frameCounter % 4294967295 + 1 ∧ r.segment = k ∧ r.eT = none ∧ r.value = 0 ∧
              v.cam.frame = none ∧ v.cam.power = false ∧ v.cam.faultCount = 1 ∧ v.ramp = s.ramp ∧ v.prog = s.prog) ∧
          (s.cam.phase = .off → s.params.settingLead = s.params.wakeLead → 0 < s.params.wakeLead → s.cam.ready = true →
            ∃ f : Frame,
              v.cam.frame = some f ∧ f.kind = .run ∧ f.number = t.seq.frameCounter % 4294967295 + 1 ∧
              f.due = s.tb.runCounter + s.params.wakeLead ∧ f.slot = k ∧ f.iEff = g'.iEff ∧
              f.metered =
                some { value := s.meter.lLast.getD (-104 + s.params.calibration), dark := false, late := true } ∧
              f.exposure ≠ none ∧ v.cam.phase = (if s.params.linkPresent = 1 then .setting else .waitDue) ∧
              v.cam.power = true ∧ v.seq.state = .running ∧ v.log = t.log ∧ v.ramp.f = s.ramp.f ∧ v.prog = s.prog))) ∧
    (∀ k : Nat, h.heldFrom = .running → h.fresh = true → h.resumeSlot = some k →
      exec (.resume mode) s = .next (endEvent s (replied (.resume mode) .ok
        (.resumed gap none ((walkFrom k h.exposureCount t).seq.grid.map fun g' => g'.nextDue))
        (walkFrom k h.exposureCount t)))) ∧
    (∀ (start : Nat) (v : State), h.heldFrom = .armed → s.seq.armedStart = some start →
      v =
        { taken (.resume mode) s with
          cam := { s.cam with faultCount := 0 }
          seq :=
            { s.seq with state := .armed, walkCount := 0, hold := none, prepRegistered := false, stretchPending := false } } →
      (s.tb.seconds < start →
        exec (.resume mode) s = .next (endEvent s (replied (.resume mode) .ok
          (.resumed none none (s.seq.grid.map fun g' => g'.nextDue)) v))) ∧
      (start ≤ s.tb.seconds →
        exec (.resume mode) s = .next (endEvent s (replied (.resume mode) .ok
          (.resumed none none (s.seq.grid.map fun g' => g'.nextDue))
          (meterRequest .frame .seed (segmentAt s 0).rounding
            { v with seq := { v.seq with state := .running, awaitingSeed := true, armedStart := none } })))))

/-- R132, R134: READ_RESUME_RECORD returns the record in HOLD alone; SET_RESUME_POINT's examination and effect. Its CLAMPED reply
carries no data (entry 46). -/
def Obligations.ResumeRecordIsReadAndRewritten : Prop :=
  ∀ (slot : Byte) (count : Half) (s : State), Listening s →
    (s.seq.state ≠ .hold →
      exec .readResumeRecord s =
        .next (endEvent s (replied .readResumeRecord .badState .empty (taken .readResumeRecord s))) ∧
      exec (.setResumePoint slot count) s = .next (endEvent s
        (replied (.setResumePoint slot count) .badState .empty (taken (.setResumePoint slot count) s)))) ∧
    (∀ h : HoldData, s.seq.state = .hold → s.seq.hold = some h →
      exec .readResumeRecord s = .next (endEvent s (replied .readResumeRecord .ok
        (.resumeRecord
          { data := h, anchor := s.seq.grid.map fun g => g.anchor, nextIndex := s.seq.grid.map fun g => g.index
            lastDue := if s.seq.grid = none then none else s.seq.lastDue
            gridInterval := s.seq.grid.map fun g => g.interval })
        (taken .readResumeRecord s))) ∧
      (h.heldFrom = .armed →
        exec (.setResumePoint slot count) s = .next (endEvent s
          (replied (.setResumePoint slot count) .badState .empty (taken (.setResumePoint slot count) s)))) ∧
      (h.heldFrom = .running → slotOf (activeBank s.prog) slot.toNat = none →
        exec (.setResumePoint slot count) s = .next (endEvent s
          (replied (.setResumePoint slot count) .badField (.field 0) (taken (.setResumePoint slot count) s)))) ∧
      (∀ g : Segment, h.heldFrom = .running → slotOf (activeBank s.prog) slot.toNat = some g →
        exec (.setResumePoint slot count) s = .next (endEvent s (replied (.setResumePoint slot count)
          (if g.term = .frames ∧ g.termArg.toNat - 1 < count.toNat then .clamped else .ok) .empty
          { taken (.setResumePoint slot count) s with
            seq :=
              { s.seq with
                hold :=
                  some
                    { h with
                      resumeSlot := some slot.toNat, fresh := true, debounce := 0, times := none
                      exposureCount :=
                        if g.term = .frames then min count.toNat (g.termArg.toNat - 1) else count.toNat } } }))))

/-! ## Test shot, meter, power, log, alerts, link -/

/-- R121: TEST_SHOT's examination. An accepted one from OFF, with a wake lead longer than the setting lead, switches the camera
on and is WAKING with d = now + wake lead, its test record IN_FLIGHT; where the wake lead is no longer than the effective meter
lead, the metering is requested at once and the phase is PREPARING (R107). With the two leads equal the setting lead is reached at
the handing and taken there (R107, R108): with READY low the shot is MISSED, its flags none (entry 47), and with READY high it is
computed with a late metered value (R58, R81). -/
def Obligations.TestShotIsExaminedAndHanded : Prop :=
  ∀ s : State, Listening s →
    (s.seq.state = .armed ∨ s.seq.state = .running ∨ s.seq.state = .holding ∨ s.seq.state = .hold →
      exec .testShot s = .next (endEvent s (replied .testShot .badState .empty (taken .testShot s)))) ∧
    (s.seq.state = .idle ∨ s.seq.state = .ended →
      (testInFlight s = true ∨ s.cam.phase = .cooldown →
        exec .testShot s = .next (endEvent s (replied .testShot .busy .empty (taken .testShot s)))) ∧
      (testInFlight s = false → s.cam.phase ≠ .cooldown →
        (∀ (i : Nat) (reason : CheckReason), programCheck s.params.overhead (activeBank s.prog) = some (i, reason) →
          exec .testShot s = .next (endEvent s (replied .testShot .badState (.check i reason) (taken .testShot s)))) ∧
        (programCheck s.params.overhead (activeBank s.prog) = none → s.cam.phase = .off →
          s.params.settingLead < s.params.wakeLead →
          ∃ (t : State) (f : Frame), exec .testShot s = .next (endEvent s (replied .testShot .ok .empty t)) ∧
            t.cam.frame = some f ∧ f.kind = .test ∧ f.due = s.tb.runCounter + s.params.wakeLead ∧ f.exposure = none ∧
            f.metered = none ∧ t.cam.power = true ∧
            t.cam.testRecord = { s.cam.testRecord with state := .inFlight } ∧ t.cam.faultCount = s.cam.faultCount ∧
            t.ramp = { s.ramp with test := some { f := none, ePrev := none } } ∧ t.seq.state = s.seq.state ∧
            t.log = s.log ∧ t.tb = s.tb ∧ t.prog = s.prog ∧ t.params = s.params ∧
            (max s.params.meterLead (s.params.settingLead + 64) < s.params.wakeLead →
              t.cam.phase = .waking ∧ t.meter = s.meter) ∧
            (s.params.wakeLead ≤ max s.params.meterLead (s.params.settingLead + 64) →
              t.cam.phase = .preparing ∧ f.meteringOpen = true ∧
              t.meter = (meterRequest .frame .test (segmentAt s 0).rounding s).meter)) ∧
        (∀ m : Metered, programCheck s.params.overhead (activeBank s.prog) = none → s.cam.phase = .off →
          s.params.settingLead = s.params.wakeLead → 0 < s.params.wakeLead →
          m = { value := s.meter.lLast.getD (-104 + s.params.calibration), dark := false, late := true } →
          (s.cam.ready = false →
            ∃ t : State, exec .testShot s = .next (endEvent s (replied .testShot .ok .empty t)) ∧
              t.cam.testRecord =
                { state := .done, outcome := some .missed, due := s.tb.runCounter + s.params.wakeLead, metered := some m
                  eT := none, mode := none, applied := none, flags := 0, syncSeen := false } ∧
              t.line.alerts = s.line.alerts ||| 0x0800 ∧ t.ramp = { s.ramp with test := none } ∧ t.cam.frame = none ∧
              t.cam.power = false ∧ t.cam.faultCount = s.cam.faultCount ∧
              t.cam.phase = (if s.cam.cooldownEnd = none then .off else .cooldown) ∧
              t.meter = (meterRequest .frame .test (segmentAt s 0).rounding s).meter ∧ t.seq = s.seq ∧ t.log = s.log ∧
              t.tb = s.tb ∧ t.prog = s.prog ∧ t.params = s.params) ∧
          (s.cam.ready = true →
            ∃ (t : State) (i : ComputeInput) (e : Exposure) (f : Frame),
              exec .testShot s = .next (endEvent s (replied .testShot .ok .empty t)) ∧
              i =
                { seg := segmentAt s 0, f := 16 * m.value, ePrev := none, fraction := none
                  iEff := (segmentAt s 0).interval * stretch t, k := s.params.k, overhead := s.params.overhead
                  bulbThreshold := s.params.bulbThreshold, link := decide (s.params.linkPresent = 1) } ∧
              e = computeExposure i ∧ t.cam.frame = some f ∧ f.kind = .test ∧
              f.due = s.tb.runCounter + s.params.wakeLead ∧ f.metered = some m ∧ f.meteringOpen = false ∧
              f.settingAt = none ∧ f.flags = computeFlags i m (stretch t) ∧
              f.exposure =
                some
                  (if s.params.linkPresent = 1 then e
                  else { e with applied := some { value := e.ticks, gain := 0, residual := 0 } }) ∧
              t.ramp = { s.ramp with test := some { f := some (16 * m.value), ePrev := some e.eT } } ∧
              t.cam.phase = (if s.params.linkPresent = 1 then .setting else .waitDue) ∧ t.cam.power = true ∧
              t.cam.focus = (s.cam.focus || decide (s.params.wakeLead ≤ s.params.focusLead)) ∧
              t.cam.testRecord = { s.cam.testRecord with state := .inFlight } ∧
              t.cam.faultCount = s.cam.faultCount ∧ t.line.alerts = s.line.alerts ∧
              t.meter = (meterRequest .frame .test (segmentAt s 0).rounding s).meter ∧ t.seq = s.seq ∧ t.log = s.log ∧
              t.tb = s.tb ∧ t.prog = s.prog ∧ t.params = s.params))))

/-- R60: METER_NOW asks for a HOST job in NEAREST and stays in the executing slot; no reply is formed in its event. R60, R61:
the end of the job completes the METER_NOW in the executing slot with the five values; with none there the result is discarded.
L_last, the ramp engine and the camera stay. -/
def Obligations.MeterNowIsAnsweredAtItsJobsEnd : Prop :=
  (∀ s : State, Listening s →
     exec .meterNow s = .next (endEvent s (meterRequest .host .host .nearest (taken .meterNow s)))) ∧
  (∀ (codes : List Code) (job : JobRequest) (start n : Nat) (cal : Int) (xs : List Sample) (k : Nat) (s : State),
     (∀ c : MeterClass, c ≠ .host → isRunning (queueSlot s.meter c) = false) →
     s.meter.host = .running job start n cal → jobResult .host n cal codes = some (.light xs k) →
     start + 2 * k ≤ s.tb.runCounter →
     (s.line.executing = some .meterNow → s.line.reply = none →
       exec (.converterJobEnd codes) s = .next (endEvent s
         { s with
           meter := { s.meter with host := .empty }
           line :=
             { s.line with
               reply :=
                 some
                   { kind := 0xB0, status := .ok
                     data :=
                       .metering (rnd job.rounding ((xs.map fun x => x.value).sum) xs.length)
                         (xs.all fun x => x.dark) xs.length (xs.countP fun x => x.hi) cal } } })) ∧
     (s.line.executing ≠ some .meterNow →
       exec (.converterJobEnd codes) s = .next (endEvent s { s with meter := { s.meter with host := .empty } })))

/-- R49: how a request reaches a queue slot, the other four slots and L_last staying as they were; it waits there for the end of
its event. R49, R50: at the end of an event a converter with no job running starts a WAITING one, which reads the sample count and
the calibration: the class of highest priority when a job ended in the event, and one of those that wait when the converter was
idle, a free choice where several reached it together (entry 42). With none waiting the converter stays idle. -/
def Obligations.MeterQueueMergesAndGrants : Prop :=
  (∀ (c : MeterClass) (owner : Owner) (rounding : Rounding) (s : State),
     ∃ m : Meter, meterRequest c owner rounding s = { s with meter := m } ∧ m.lLast = s.meter.lLast ∧
       (∀ c' : MeterClass, c' ≠ c → queueSlot m c' = queueSlot s.meter c') ∧
       (isRunning (queueSlot s.meter c) = false → queueSlot m c = .waiting { owner := owner, rounding := rounding }) ∧
       (∀ (job : JobRequest) (start n : Nat) (cal : Int), queueSlot s.meter c = .running job start n cal →
         queueSlot m c = .running { owner := owner, rounding := rounding } start n cal)) ∧
  (∀ s t : State,
     ((∃ c : MeterClass, isRunning (queueSlot t.meter c) = true) ∨
         (∀ c : MeterClass, isWaiting (queueSlot t.meter c) = false) → serveMeter s t = t) ∧
     (∀ (before after : List MeterClass) (c : MeterClass) (job : JobRequest),
       [MeterClass.frame, .battery, .temperature, .solar, .host] = before ++ c :: after →
       (∀ c' : MeterClass, isRunning (queueSlot t.meter c') = false) →
       (∀ c' ∈ before, isWaiting (queueSlot t.meter c') = false) → queueSlot t.meter c = .waiting job →
       (∃ c' : MeterClass, isRunning (queueSlot s.meter c') = true) ∨
         (∀ c' ∈ after, isWaiting (queueSlot t.meter c') = false) →
       ∃ m : Meter, serveMeter s t = { t with meter := m } ∧ m.lLast = t.meter.lLast ∧
         queueSlot m c = .running job t.tb.runCounter t.params.sampleCount t.params.calibration ∧
         ∀ c' : MeterClass, c' ≠ c → queueSlot m c' = queueSlot t.meter c') ∧
     ((∀ c' : MeterClass, isRunning (queueSlot t.meter c') = false) →
       (∃ c' : MeterClass, isWaiting (queueSlot t.meter c') = true) →
       ∃ (c : MeterClass) (job : JobRequest) (m : Meter) (n : Nat), queueSlot t.meter c = .waiting job ∧
         (n = t.choices ∨ n = t.choices + 1) ∧ serveMeter s t = { t with meter := m, choices := n } ∧
         m.lLast = t.meter.lLast ∧
         queueSlot m c = .running job t.tb.runCounter t.params.sampleCount t.params.calibration ∧
         ∀ c' : MeterClass, c' ≠ c → queueSlot m c' = queueSlot t.meter c') ∧
     (t.cam.phase ≠ .idleOn → t.seq.state ≠ .holding → heaterConditions t = t.pow.eligible →
       (endEvent s t).meter = (serveMeter s t).meter))

/-- R157: SET_CHARGE takes an accrual, then sets the account, clamped to the capacity, with remainder 0, and forms the levels, once
for the accrual's account and once for the new one. R158: the charge level by the fall and the rise thresholds of pm. R159: the
budget level. R166: GET_POWER returns the listed values and changes nothing. -/
def Obligations.ChargeIsSetAndPowerIsRead : Prop :=
  (∀ (charge : Half) (s : State), Listening s →
     ∃ t : State, exec (.setCharge charge) s = .next (endEvent s (replied (.setCharge charge)
         (if charge.toNat * 3600 ≤ s.params.capacity * 3600 then .ok else .clamped)
         (.account (min (charge.toNat * 3600) (s.params.capacity * 3600))) t)) ∧
       t.pow.account = min (charge.toNat * 3600) (s.params.capacity * 3600) ∧ t.pow.remainder = 0 ∧
       t.pow.lastAccrual = s.tb.runCounter ∧
       t.pow.draw = drawOf s.params s.pow.core t.cam.power s.pow.heat ∧
       (∀ old new : Nat,
         old =
           (s.pow.account - (s.pow.remainder + s.pow.draw * (s.tb.runCounter - s.pow.lastAccrual)) / 1024000) * 1000 /
             (s.params.capacity * 3600) →
         new = min (charge.toNat * 3600) (s.params.capacity * 3600) * 1000 / (s.params.capacity * 3600) →
         t.pow.chargeLevel = nextChargeLevel (nextChargeLevel s.pow.chargeLevel old) new) ∧
       t.pow.budgetLevel = budgetOf s.pow.voltage t.pow.chargeLevel ∧ t.pow.voltage = s.pow.voltage ∧
       (s.cam.phase ≠ .idleOn → t.cam = s.cam) ∧
       t.tb = s.tb ∧ t.prog = s.prog ∧ t.ramp = s.ramp ∧ t.log = s.log ∧ t.params = s.params ∧ t.meter = s.meter) ∧
  (∀ level pm : Nat, level ≤ 3 →
     (pm < 100 → nextChargeLevel level pm = 0) ∧
     (100 ≤ pm → pm < 120 → nextChargeLevel level pm = min level 1) ∧
     (120 ≤ pm → pm < 250 → nextChargeLevel level pm = 1) ∧
     (250 ≤ pm → pm < 270 → nextChargeLevel level pm = max 1 (min level 2)) ∧
     (270 ≤ pm → pm < 500 → nextChargeLevel level pm = 2) ∧
     (500 ≤ pm → pm < 520 → nextChargeLevel level pm = max 2 level) ∧
     (520 ≤ pm → nextChargeLevel level pm = 3)) ∧
  (∀ (v : Voltage) (level : Nat),
     budgetOf .normal level = level ∧ (v ≠ .normal → budgetOf v level = min level 1)) ∧
  (∀ s : State, Listening s →
     exec .getPower s = .next (endEvent s (replied .getPower .ok
       (.power
         { voltage := s.pow.voltage, belowCritical := s.pow.belowCritical, reEvaluate := s.pow.reEvaluate
           battery := s.pow.battery, vLow := s.params.vLow, vCrit := s.params.vCrit, hysteresis := s.params.hysteresis
           solar := s.pow.solar, temperature := s.pow.temperature, account := s.pow.account
           remainder := s.pow.remainder, lastAccrual := s.pow.lastAccrual, draw := s.pow.draw
           capacity := s.params.capacity, perMille := s.pow.account * 1000 / (s.params.capacity * 3600)
           chargeLevel := s.pow.chargeLevel, budgetLevel := s.pow.budgetLevel, stretch := stretch s
           keepOn := decide (2 ≤ s.pow.budgetLevel), core := s.pow.core, eligible := s.pow.eligible
           duty := s.pow.duty, pendingDuty := s.pow.pendingDuty, periodIndex := s.tb.runCounter / 2048 % 8
           heat := s.pow.heat, recovery := s.pow.recovery })
       (taken .getPower s))))

/-- R178, R179, R180: READ_FRAMES and GET_LOG_INFO read the log; RELEASE_FRAMES removes the oldest min(n, held) records.
R200: READ_ALERTS returns both sets and empties both. R192: GET_LINK_STATS returns the counters, the speed and the line state, and
clears the counters. -/
def Obligations.LogAlertsAndStatsAreReadBack : Prop :=
  (∀ (count : Half) (s : State), Listening s →
     exec .readFrames s = .next (endEvent s (replied .readFrames .ok
       (.frames s.log.records.length s.log.overwritten (s.log.records.take 2)) (taken .readFrames s))) ∧
     exec .getLogInfo s = .next (endEvent s (replied .getLogInfo .ok
       (.logInfo s.params.logSize s.log.records.length s.log.written s.log.released s.log.overwritten)
       (taken .getLogInfo s))) ∧
     exec (.releaseFrames count) s = .next (endEvent s (replied (.releaseFrames count)
       (if count.toNat ≤ s.log.records.length then .ok else .clamped)
       (.released (min count.toNat s.log.records.length)
         (s.log.records.length - min count.toNat s.log.records.length) s.log.overwritten)
       { taken (.releaseFrames count) s with
         log :=
           { s.log with
             records := s.log.records.drop (min count.toNat s.log.records.length)
             readIndex := (s.log.readIndex + min count.toNat s.log.records.length) % s.params.logSize
             released := (s.log.released + min count.toNat s.log.records.length) % 2 ^ 32 } }))) ∧
  (∀ s : State, Listening s →
     exec .readAlerts s = .next (endEvent s (replied .readAlerts .ok (.alerts s.line.alerts s.ramp.sticky)
       { taken .readAlerts s with
         line := { (taken .readAlerts s).line with alerts := 0 }, ramp := { s.ramp with sticky := 0 } })) ∧
     (∀ t : State, exec .readAlerts s = .next t → t.seq.state ≠ .hold ∨ s.seq.state = .hold → t.line.atn = false) ∧
     exec .getLinkStats s = .next (endEvent s (replied .getLinkStats .ok
       (.linkStats s.line.crcErrors s.line.framingErrors s.line.lengthErrors s.line.gapErrors s.line.overrunErrors
         s.line.speed .listening)
       { taken .getLinkStats s with
         line :=
           { (taken .getLinkStats s).line with
             crcErrors := 0, framingErrors := 0, lengthErrors := 0, gapErrors := 0, overrunErrors := 0 } })))

/-- R191: SET_LINK_SPEED arms the switch; the speed changes in the event of the last byte of its reply (R190), with the
assembler cleared, the old speed kept and the trial begun. Then, or with no switch armed, the held request executes. -/
def Obligations.LinkSpeedSwitchesWhenTheReplyIsSent : Prop :=
  (∀ (code : Byte) (s : State), Listening s →
    (4 ≤ code.toNat →
      exec (.setLinkSpeed code) s = .next (endEvent s
        (replied (.setLinkSpeed code) .badField (.field 1) (taken (.setLinkSpeed code) s)))) ∧
    (∀ row ∈ [((0 : Byte), Speed.b9600), (1, .b19200), (2, .b57600), (3, .b115200)], code = row.1 →
      exec (.setLinkSpeed code) s = .next (endEvent s (replied (.setLinkSpeed code) .ok .empty
        { taken (.setLinkSpeed code) s with
          line := { (taken (.setLinkSpeed code) s).line with switchTo := some row.2 } })))) ∧
  ∀ s : State, s.line.reply ≠ none → s.line.executing ≠ none →
    (s.line.switchTo = none → s.line.held = none →
      exec .replySent s = .next (endEvent s { s with line := { s.line with reply := none, executing := none } })) ∧
    (∀ r : Request, s.line.switchTo = none → s.line.held = some r →
      exec .replySent s = .next (endEvent s
        (executeRequest r { s with line := { s.line with reply := none, executing := none, held := none } }))) ∧
    (∀ sp : Speed, s.line.switchTo = some sp → s.line.held = none →
      exec .replySent s = .next (endEvent s
        { s with
          line :=
            { s.line with
              reply := none, executing := none, assembling := false, gapAt := none, oldSpeed := s.line.speed
              speed := sp, switchTo := none, listenAt := none, state := .speedTrial
              trialAt := some (s.tb.runCounter + 2048) } })) ∧
    (∀ (sp : Speed) (r : Request), s.line.switchTo = some sp → s.line.held = some r →
      exec .replySent s = .next (endEvent s (executeRequest r
        { s with
          line :=
            { s.line with
              reply := none, executing := none, held := none, assembling := false, gapAt := none
              oldSpeed := s.line.speed, speed := sp, switchTo := none, listenAt := none, state := .speedTrial
              trialAt := some (s.tb.runCounter + 2048) } })))

/-! ## The receiver -/

/-- R184, R185, R189, R193: a complete frame under assembly. A matching CRC hands its request to the command slots, an unknown
KIND and a LEN that does not fit are answered by the line port, and a CRC that does not match is counted. The frame's last stop
bit was high, so that no break is timing any more (entry 11). A payload above 64 bytes is the length error of its LEN byte (R186,
entry 5). -/
def Obligations.CompleteFrameIsCheckedAndHandedOn : Prop :=
  ∀ (kind : Byte) (payload : List Byte) (crc : Byte) (s : State), s.line.state ≠ .dormant →
    s.line.awaitHigh = false → s.line.assembling = true →
    (64 < payload.length →
      exec (.frameReceived kind payload crc) s = .next (endEvent s
        { s with
          line :=
            { s.line with
              assembling := false, gapAt := none, breakAt := none
              lengthErrors := min (s.line.lengthErrors + 1) 65535, alerts := s.line.alerts ||| 0x0200 } })) ∧
    (payload.length ≤ 64 → crc = frameCrc kind payload →
      exec (.frameReceived kind payload crc) s = .next (endEvent s (receive (decodeRequest kind payload)
        { s with line := { s.line with assembling := false, gapAt := none } })) ∧
      (s.line.executing = none → decodeRequest kind payload = .unknownKind kind →
        exec (.frameReceived kind payload crc) s = .next (endEvent s (replied (.unknownKind kind) .unknownKind .empty
          (taken (.unknownKind kind) { s with line := { s.line with assembling := false, gapAt := none } })))) ∧
      (s.line.executing = none → decodeRequest kind payload = .badLength kind →
        exec (.frameReceived kind payload crc) s = .next (endEvent s (replied (.badLength kind) .badLength .empty
          (taken (.badLength kind) { s with line := { s.line with assembling := false, gapAt := none } }))))) ∧
    (payload.length ≤ 64 → crc ≠ frameCrc kind payload →
      exec (.frameReceived kind payload crc) s = .next (endEvent s
        { s with
          line :=
            { s.line with
              assembling := false, gapAt := none, breakAt := none, crcErrors := min (s.line.crcErrors + 1) 65535
              alerts := s.line.alerts ||| 0x0200 } }))

/-- R193, R194: the catalog's kinds and lengths. A KIND outside it is UNKNOWN_KIND, a length not given to the kind is
BAD_LENGTH, and a frame that fits is a request with that KIND and that payload. -/
def Obligations.DecodedRequestsAreTheCatalogs : Prop :=
  ∀ (kind : Byte) (payload : List Byte),
    (kind ∉ [(0x01 : Byte), 0x02, 0x03, 0x05, 0x06, 0x10, 0x11, 0x12, 0x13, 0x14, 0x20, 0x21, 0x22, 0x23, 0x24, 0x25,
        0x26, 0x30, 0x40, 0x41, 0x50, 0x51, 0x52, 0x60, 0x62, 0x63] →
      decodeRequest kind payload = .unknownKind kind) ∧
    ∀ row ∈
        [((0x01 : Byte), [0]), (0x02, [1]), (0x03, [6]), (0x05, [5]), (0x06, [1]), (0x10, [32]), (0x11, [2]),
          (0x12, [0]), (0x13, [0]), (0x14, [0]), (0x20, [0, 4]), (0x21, [0]), (0x22, [0]), (0x23, [1]), (0x24, [0]),
          (0x25, [3]), (0x26, [0]), (0x30, [0]), (0x40, [2]), (0x41, [0]), (0x50, [0]), (0x51, [2]), (0x52, [0]),
          (0x60, [0]), (0x62, [0]), (0x63, [1])],
      kind = row.1 →
        (payload.length ∉ row.2 → decodeRequest kind payload = .badLength kind) ∧
        (payload.length ∈ row.2 →
          (decodeRequest kind payload).kind = kind ∧
            Request.payload (decodeRequest kind payload) = some payload)

/-- R184, R202: the bytes of every request of the catalog decode to it, and the CRC of a frame of at most 64 payload bytes
leaves no remainder. -/
def Obligations.EveryRequestDecodesFromItsBytes : Prop :=
  (∀ (r : Request) (payload : List Byte), Request.payload r = some payload → decodeRequest r.kind payload = r) ∧
  ∀ (kind : Byte) (payload : List Byte), crc8 ((frameBytes kind payload).tail) = 0

/-- R185, R188: an SOF byte begins a frame and arms the gap timer, 4 ticks after the waking edge at the earliest; inside that time
a byte is discarded unexamined, whatever it is; one whose stop bit is low only times a break from the fall of LRX. Inside a frame an SOF byte is a byte of the frame and the gap is timed from its end;
the other bytes of a frame are no rows (entry 9). R186: a stop-bit error, a length error and an expired gap each abandon the frame
under assembly, add one to their own counter, which stays at 65,535, and raise LINK_ERROR. After a stop-bit error the receiver takes
nothing until LRX returns high, with a break timed from the fall of LRX (R187); a byte whose stop bit was high ends such a timing, and
so does the return high (entries 11 and 38). The window of R188 with the end of the byte as the row's time is entry 12. -/
def Obligations.ReceiverBeginsFramesAndCountsErrors : Prop :=
  (∀ (startedAgo : Nat) (s : State), s.line.state ≠ .dormant → s.line.awaitHigh = false →
     (s.line.wakeEdgeAt = none ∨ (∃ t : Nat, s.line.wakeEdgeAt = some t ∧ t + 4 + startedAgo ≤ s.tb.runCounter) →
       exec (.sofByte startedAgo) s = .next (endEvent s
         { s with
           line := { s.line with assembling := true, gapAt := some (s.tb.runCounter + 32), breakAt := none } }) ∧
       ∀ lowFor : Nat, exec (.stopBitError startedAgo lowFor) s = .next (endEvent s
         { s with
           line :=
             { s.line with
               assembling := false, gapAt := none, framingErrors := min (s.line.framingErrors + 1) 65535
               awaitHigh := true, breakAt := some (s.tb.runCounter - lowFor + 64)
               alerts := s.line.alerts ||| 0x0200 } })) ∧
     ((∃ t : Nat, s.line.wakeEdgeAt = some t ∧ s.tb.runCounter < t + 4 + startedAgo) →
       exec (.sofByte startedAgo) s = .next s ∧
       ∀ lowFor : Nat, exec (.stopBitError startedAgo lowFor) s = .next (endEvent s
         { s with line := { s.line with breakAt := some (s.tb.runCounter - lowFor + 64) } }))) ∧
  (∀ s : State, s.line.state ≠ .dormant →
     (∀ len : Byte, s.line.awaitHigh = false → s.line.assembling = true → 64 < len.toNat →
       exec (.lengthError len) s = .next (endEvent s
         { s with
           line :=
             { s.line with
               assembling := false, gapAt := none, breakAt := none
               lengthErrors := min (s.line.lengthErrors + 1) 65535, alerts := s.line.alerts ||| 0x0200 } })) ∧
     (∀ at_ : Nat, s.line.awaitHigh = false → s.line.assembling = true → s.line.gapAt = some at_ →
       at_ ≤ s.tb.runCounter →
       exec .gapError s = .next (endEvent s
         { s with
           line :=
             { s.line with
               assembling := false, gapAt := none, gapErrors := min (s.line.gapErrors + 1) 65535
               alerts := s.line.alerts ||| 0x0200 } })) ∧
     (s.line.awaitHigh = true →
       ∀ startedAgo lowFor : Nat,
         exec (.stopBitError startedAgo lowFor) s = .next s ∧ exec (.sofByte startedAgo) s = .next s)) ∧
  (∀ s : State,
     (s.line.awaitHigh = true ∨ s.line.breakAt ≠ none →
       exec .lrxReturnHigh s =
         .next (endEvent s { s with line := { s.line with awaitHigh := false, breakAt := none } })) ∧
     (s.line.awaitHigh = false → s.line.breakAt = none → exec .lrxReturnHigh s = .next s))

/-- R187, R188: a break, LRX low for 64 ticks, empties both slots, stops a reply, withdraws the expiries, sets 9600 baud and DORMANT,
and keeps the counters, the alert set and the mask; the next falling edge wakes the line at the speed in force, and times a break from
itself (entry 11). A break row before its time, and a wake edge outside DORMANT, have no effect (entries 2 and 3). R188, R191: the
listen expiry makes the line DORMANT when nothing is in hand and moves on otherwise; the trial expiry returns to the old speed and
LISTENING, with LINK_ERROR. -/
def Obligations.LineStateFollowsItsEvents : Prop :=
  (∀ s : State,
     ((∃ t : Nat, s.line.breakAt = some t ∧ t ≤ s.tb.runCounter) →
       exec .lineBreak s = .next (endEvent s
         { s with
           line :=
             { s.line with
               state := .dormant, speed := .b9600, switchTo := none, assembling := false, gapAt := none
               awaitHigh := false, breakAt := none, wakeEdgeAt := none, listenAt := none, trialAt := none
               executing := none, held := none, reply := none } })) ∧
     (s.line.breakAt = none ∨ (∃ t : Nat, s.line.breakAt = some t ∧ s.tb.runCounter < t) →
       exec .lineBreak s = .next s) ∧
     (s.line.state = .dormant →
       exec .wakeEdge s = .next (endEvent s
         { s with
           line :=
             { s.line with
               state := .listening, listenAt := some (s.tb.runCounter + 2048), wakeEdgeAt := some s.tb.runCounter
               awaitHigh := false, breakAt := some (s.tb.runCounter + 64) } })) ∧
     (s.line.state ≠ .dormant → exec .wakeEdge s = .next s)) ∧
  (∀ (at_ : Nat) (s : State), at_ ≤ s.tb.runCounter →
     (s.line.state = .listening → s.line.listenAt = some at_ →
       (s.line.executing = none → s.line.held = none → s.line.reply = none → s.line.assembling = false →
         exec .listenExpiry s = .next (endEvent s
           { s with line := { s.line with state := .dormant, listenAt := none, wakeEdgeAt := none } })) ∧
       (¬(s.line.executing = none ∧ s.line.held = none ∧ s.line.reply = none ∧ s.line.assembling = false) →
         exec .listenExpiry s = .next (endEvent s
           { s with line := { s.line with listenAt := some (s.tb.runCounter + 2048) } }))) ∧
     (s.line.state = .speedTrial → s.line.trialAt = some at_ →
       exec .trialExpiry s = .next (endEvent s
         { s with
           line :=
             { s.line with
               state := .listening, speed := s.line.oldSpeed, assembling := false, gapAt := none, trialAt := none
               listenAt := some (s.tb.runCounter + 2048), alerts := s.line.alerts ||| 0x0200 } })))

/-! ## The sequencer's compares -/

/-- R45: a preparation start with a run frame in flight. The new frame is numbered and becomes the last due, its record is
written MISSED with cause OVERRUN, the next frame's preparation start is registered, and the camera is not touched. R38, R39, R40: one
whose DURATION, CLOCK or LEVEL_BELOW is true drops the frame: no number, no record, nothing handed, and the walk leaves for the
segment's next. The battery sample is asked for all the same. The lead is the effective meter lead (entry 17). -/
def Obligations.PreparationStartMissesOrDropsAFrame : Prop :=
  (∀ (g : Grid) (c : Current) (s : State), s.seq.state = .running → s.seq.stopPending = false →
     s.seq.prepRegistered = true → s.seq.grid = some g → s.seq.current = some c → frameInFlight s = true →
     g.nextDue ≤ s.tb.runCounter + max s.params.meterLead (s.params.settingLead + 64) →
     ∃ (t : State) (r : LogRecord), exec .preparationStart s = .next (endEvent s t) ∧
       t.log = storeRecord s.params.logSize r s.log ∧ r.outcome = .missed ∧ r.cause = .overrun ∧
       r.run = s.seq.runNumber ∧ r.frame = s.seq.frameCounter % 4294967295 + 1 ∧ r.segment = c.slot ∧ r.lAvg = none ∧
       r.eT = none ∧ r.mode = none ∧ r.value = 0 ∧ r.gain = none ∧ r.residual = none ∧
       (r.dueSeconds, r.dueTicks) = wallTimeAt s.tb g.nextDue ∧
       r.flags = (if 1 < g.factor then (0x0200 : Half) else 0) ||| (if s.tb.valid = true then 0 else 0x0400) ∧
       t.seq =
         { s.seq with
           frameCounter := s.seq.frameCounter % 4294967295 + 1, walkCount := 0, lastDue := some g.nextDue
           grid := some { g with index := g.index + 1 } } ∧
       t.meter = (meterRequest .battery .power .down s).meter ∧ t.cam = s.cam ∧ t.pow = s.pow ∧ t.ramp = s.ramp ∧
       t.tb = s.tb ∧ t.prog = s.prog ∧ t.params = s.params) ∧
  (∀ (g : Grid) (c : Current) (e : Entry) (s : State), s.seq.state = .running → s.seq.stopPending = false →
     s.seq.prepRegistered = true → s.seq.grid = some g → s.seq.current = some c → s.cam.frame = none →
     (g.nextDue ≤ s.tb.runCounter + max s.params.meterLead (s.params.settingLead + 64) ∨
       (s.cam.phase = .off ∧ g.nextDue ≤ s.tb.runCounter + s.params.wakeLead)) →
     (segmentAt s c.slot).term = .duration ∨ (segmentAt s c.slot).term = .clock ∨
       (segmentAt s c.slot).term = .levelBelow →
     e = takeW0 s.tb (segmentAt s c.slot) c.entry → terminationTrue s (segmentAt s c.slot) e = true →
     exec .preparationStart s =
       .next (endEvent s (walkNext c.slot
         { meterRequest .battery .power .down s with
           seq := { s.seq with current := some { slot := c.slot, entry := e } } })))

/-- R44, R107: a preparation start in time, with no frame in hand, in a segment that is not left there: its kind is not evaluated at a
preparation start (R38), or is false. A frame is numbered and handed: from OFF the camera goes on and the phase is WAKING; in COOLDOWN
the camera stays off, the cooldown end is kept, and the phase is WAKING; from IDLE_ON it is PREPARING with the metering requested. A
meter lead already reached at the handing is taken in the event, which makes a WAKING frame PREPARING with its metering requested. A
setting lead already reached is taken too: a camera that is not ready misses the frame with cause CAMERA_WAKE and a late metered
value (R58, R109), and one that is ready takes the computation in the handing event (R108, R70), with FOCUS asserted where its lead
is reached as well. The BATTERY and the FRAME request then wait for the converter together, in either order; which an idle converter takes is free
(R49, entry 42). The lead is the effective meter lead (entry 17), and an unset L_last gives the DARK floor (entry 30). -/
def Obligations.PreparationStartNumbersAndHandsAFrame : Prop :=
  (∀ (g : Grid) (c c' : Current) (eff : Nat) (s : State), s.seq.state = .running → s.seq.stopPending = false →
    s.seq.prepRegistered = true → s.seq.grid = some g → s.seq.current = some c → s.cam.frame = none →
    eff = max s.params.meterLead (s.params.settingLead + 64) →
    (c' = c ∧ ((segmentAt s c.slot).term = .frames ∨ (segmentAt s c.slot).term = .lightBelow ∨
        (segmentAt s c.slot).term = .lightAbove ∨ (segmentAt s c.slot).term = .forever)) ∨
      (c' = { c with entry := takeW0 s.tb (segmentAt s c.slot) c.entry } ∧
        terminationTrue s (segmentAt s c.slot) c'.entry = false ∧
        ((segmentAt s c.slot).term = .duration ∨ (segmentAt s c.slot).term = .clock ∨
          (segmentAt s c.slot).term = .levelBelow)) →
    (s.cam.phase = .off ∧ g.nextDue ≤ s.tb.runCounter + s.params.wakeLead) ∨
      ((s.cam.phase = .off ∨ s.cam.phase = .cooldown ∨ s.cam.phase = .idleOn) ∧ g.nextDue ≤ s.tb.runCounter + eff) →
    (s.tb.runCounter + s.params.settingLead < g.nextDue →
      ∃ (t : State) (f : Frame), exec .preparationStart s = .next (endEvent s t) ∧ t.cam.frame = some f ∧
        f.kind = .run ∧ f.number = s.seq.frameCounter % 4294967295 + 1 ∧ f.due = g.nextDue ∧ f.slot = c.slot ∧
        f.iEff = g.interval * g.factor ∧ f.factor = g.factor ∧ f.syncSeen = false ∧ f.exposure = none ∧
        f.metered = none ∧ f.flags = 0 ∧
        f.leads =
          { wake := s.params.wakeLead, meter := eff, setting := s.params.settingLead, focus := s.params.focusLead } ∧
        t.seq.state = .running ∧ t.seq.frameCounter = f.number ∧ t.seq.walkCount = 0 ∧ t.seq.lastDue = some g.nextDue ∧
        t.seq.grid = some { g with index := g.index + 1 } ∧ t.seq.prepRegistered = true ∧ t.seq.current = some c' ∧
        t.log = s.log ∧ t.ramp = s.ramp ∧ t.tb = s.tb ∧ t.prog = s.prog ∧ t.params = s.params ∧
        t.cam.cooldownEnd = s.cam.cooldownEnd ∧
        t.cam.power = (s.cam.power || decide (s.cam.phase = .off)) ∧
        (s.cam.phase ≠ .idleOn → s.tb.runCounter + eff < g.nextDue →
          t.cam.phase = .waking ∧ f.meteringOpen = false ∧
          t.meter = (meterRequest .battery .power .down s).meter) ∧
        (s.cam.phase = .idleOn ∨ g.nextDue ≤ s.tb.runCounter + eff →
          t.cam.phase = .preparing ∧ f.meteringOpen = true ∧
          t.meter =
            (meterRequest .frame .frame (segmentAt s c.slot).rounding (meterRequest .battery .power .down s)).meter)) ∧
    (s.tb.runCounter < g.nextDue → g.nextDue ≤ s.tb.runCounter + s.params.settingLead → s.cam.ready = true →
      s.cam.phase = .off ∨ s.cam.power = true →
      ∃ (t : State) (i : ComputeInput) (e : Exposure) (m : Metered) (f : Frame),
        exec .preparationStart s = .next (endEvent s t) ∧ t.cam.frame = some f ∧ f.kind = .run ∧
        f.number = s.seq.frameCounter % 4294967295 + 1 ∧ f.due = g.nextDue ∧ f.slot = c.slot ∧
        f.iEff = g.interval * g.factor ∧ f.factor = g.factor ∧ f.syncSeen = false ∧
        m = { value := s.meter.lLast.getD (-104 + s.params.calibration), dark := false, late := true } ∧
        f.metered = some m ∧ f.meteringOpen = false ∧ f.settingAt = none ∧
        i = runInput { s with seq := { s.seq with current := some c' } } f ∧ e = computeExposure i ∧
        f.exposure =
          some
            (if s.params.linkPresent = 1 then e
            else { e with applied := some { value := e.ticks, gain := 0, residual := 0 } }) ∧
        f.flags = computeFlags i m g.factor ∧
        t.ramp =
          { s.ramp with ePrev := some e.eT, sticky := s.ramp.sticky ||| (f.flags &&& 0x001F) } ∧
        t.line =
          { s.line with
            alerts := if f.flags &&& 0x0003 = 0 then s.line.alerts else s.line.alerts ||| 0x0400 } ∧
        t.cam.phase = (if s.params.linkPresent = 1 then .setting else .waitDue) ∧
        (s.params.linkPresent = 1 →
          t.cam.exchange = .sending ∧ t.cam.setting = some { mode := e.mode, shutter := e.sReq, gain := e.gReq } ∧
          t.cam.replyWindowAt = some (s.tb.runCounter + 192)) ∧
        t.cam.power = true ∧
        t.cam.focus = (s.cam.focus || decide (g.nextDue ≤ s.tb.runCounter + s.params.focusLead)) ∧
        t.seq.state = .running ∧ t.seq.frameCounter = f.number ∧ t.seq.walkCount = 0 ∧ t.seq.lastDue = some g.nextDue ∧
        t.seq.grid = some { g with index := g.index + 1 } ∧ t.seq.prepRegistered = true ∧ t.seq.current = some c' ∧
        t.meter =
          (meterRequest .frame .frame (segmentAt s c.slot).rounding (meterRequest .battery .power .down s)).meter ∧
        t.log = s.log ∧ t.tb = s.tb ∧ t.prog = s.prog ∧ t.params = s.params) ∧
    (g.nextDue ≤ s.tb.runCounter + s.params.settingLead →
      s.cam.ready = false ∨ (s.cam.phase = .cooldown ∧ s.cam.power = false) → s.prog.commitPending = false →
      ∃ (t : State) (r : LogRecord), exec .preparationStart s = .next (endEvent s t) ∧
        t.log = storeRecord s.params.logSize r s.log ∧ r.outcome = .missed ∧ r.cause = .cameraWake ∧
        r.frame = s.seq.frameCounter % 4294967295 + 1 ∧ r.segment = c.slot ∧
        r.lAvg = some (s.meter.lLast.getD (-104 + s.params.calibration)) ∧ r.value = 0 ∧ r.eT = none ∧
        t.seq.frameCounter = r.frame ∧ t.seq.lastDue = some g.nextDue ∧ t.cam.frame = none ∧
        t.cam.faultCount = min (s.cam.faultCount + 1) 15 ∧ t.ramp = s.ramp ∧ t.tb = s.tb ∧ t.prog = s.prog ∧
        t.params = s.params)) ∧
  (∀ (rounding : Rounding) (s : State),
    meterRequest .frame .frame rounding (meterRequest .battery .power .down s) =
      meterRequest .battery .power .down (meterRequest .frame .frame rounding s))

/-! ## The meter -/

/-- R52, R53: a sample's value by the highest set bit of its code, DARK for code 0, with the bounds before calibration; and
the choice of the range by the LO code. -/
def Obligations.LightSamplesFollowTheLogTable : Prop :=
  (∀ (cal : Int) (c : Code) (hi : Bool) (p : Nat), 2 ^ p ≤ c.toNat → c.toNat < 2 ^ (p + 1) →
    (sampleOf cal c hi).value =
        ((16 * p + (c.toNat - 2 ^ p) * 16 / 2 ^ p : Nat) : Int) - (if hi = true then 96 else 0) + cal ∧
      (sampleOf cal c hi).dark = false ∧
      -96 ≤ (sampleOf cal c hi).value - cal ∧ (sampleOf cal c hi).value - cal ≤ 191) ∧
  (∀ (cal : Int) (hi : Bool), (sampleOf cal 0 hi).value = -104 + cal ∧ (sampleOf cal 0 hi).dark = true) ∧
  (∀ (cal : Int) (lo hi : Code) (rest : List Code),
    (64 ≤ lo.toNat → lightSample cal (lo :: hi :: rest) = some (sampleOf cal lo false, hi :: rest)) ∧
    (lo.toNat < 64 → hi.toNat = 4095 → lightSample cal (lo :: hi :: rest) = some (sampleOf cal lo false, rest)) ∧
    (lo.toNat < 64 → hi.toNat ≠ 4095 → lightSample cal (lo :: hi :: rest) = some (sampleOf cal hi true, rest)))

/-- R50, R51, R54, R55, R57, R69: the end of a FRAME job. A frame metering accepted in PREPARING sets L_last and the frame's
metered value and steps the filter; an accepted seed sets L_last, seeds the filter and starts the walk at slot 0, or in HOLDING ends
the wait for it (R29). R58, R81: an accepted test metering gives the shot its metered value and seeds the private filter, and L_last
stays. What nobody awaits is discarded: a frame or test metering whose deadline was taken first (R55), or whose shot is gone, and a
seed after a STOP. -/
def Obligations.FrameJobEndDeliversTheAverage : Prop :=
  ∀ (codes : List Code) (job : JobRequest) (start n : Nat) (cal : Int) (xs : List Sample) (k : Nat) (s : State),
    s.meter.frame = .running job start n cal → jobResult .frame n cal codes = some (.light xs k) →
    start + 2 * k ≤ s.tb.runCounter →
    (∀ f : Frame, job.owner = .frame → s.cam.frame = some f → f.kind = .run → s.cam.phase = .preparing →
      f.meteringOpen = true →
      exec (.converterJobEnd codes) s = .next (endEvent s
        { s with
          meter :=
            { s.meter with
              frame := .empty, lLast := some (rnd job.rounding ((xs.map fun x => x.value).sum) xs.length) }
          cam :=
            { s.cam with
              frame :=
                some
                  { f with
                    meteringOpen := false
                    metered :=
                      some
                        { value := rnd job.rounding ((xs.map fun x => x.value).sum) xs.length
                          dark := xs.all fun x => x.dark, late := false } } }
          ramp :=
            { s.ramp with
              seeded := true
              f :=
                if s.ramp.seeded = true then
                  s.ramp.f + rnd (segmentAt s f.slot).rounding
                    (16 * rnd job.rounding ((xs.map fun x => x.value).sum) xs.length - s.ramp.f)
                    (2 ^ (segmentAt s f.slot).smoothing)
                else 16 * rnd job.rounding ((xs.map fun x => x.value).sum) xs.length } })) ∧
    (job.owner = .seed → s.seq.state = .running → s.seq.awaitingSeed = true →
      exec (.converterJobEnd codes) s = .next (endEvent s (walkFrom 0 0
        { s with
          meter :=
            { s.meter with
              frame := .empty, lLast := some (rnd job.rounding ((xs.map fun x => x.value).sum) xs.length) }
          ramp :=
            { s.ramp with
              seeded := true, f := 16 * rnd job.rounding ((xs.map fun x => x.value).sum) xs.length }
          seq := { s.seq with awaitingSeed := false } }))) ∧
    (job.owner = .seed → s.seq.state = .holding → s.seq.awaitingSeed = true →
      exec (.converterJobEnd codes) s = .next (endEvent s
        { s with
          meter :=
            { s.meter with
              frame := .empty, lLast := some (rnd job.rounding ((xs.map fun x => x.value).sum) xs.length) }
          ramp :=
            { s.ramp with
              seeded := true, f := 16 * rnd job.rounding ((xs.map fun x => x.value).sum) xs.length }
          seq := { s.seq with awaitingSeed := false } })) ∧
    (∀ f : Frame, job.owner = .test → s.cam.frame = some f → f.kind = .test → s.cam.phase = .preparing →
      f.meteringOpen = true →
      exec (.converterJobEnd codes) s = .next (endEvent s
        { s with
          meter := { s.meter with frame := .empty }
          cam :=
            { s.cam with
              frame :=
                some
                  { f with
                    meteringOpen := false
                    metered :=
                      some
                        { value := rnd job.rounding ((xs.map fun x => x.value).sum) xs.length
                          dark := xs.all fun x => x.dark, late := false } } }
          ramp :=
            { s.ramp with
              test :=
                some
                  { f := some (16 * rnd job.rounding ((xs.map fun x => x.value).sum) xs.length), ePrev := none } } })) ∧
    ((job.owner = .frame ∨ job.owner = .test) ∧
        (s.cam.frame = none ∨ s.cam.phase ≠ .preparing ∨
          (∃ f : Frame, s.cam.frame = some f ∧
            (f.meteringOpen = false ∨ (f.kind = .run ∧ job.owner = .test) ∨ (f.kind = .test ∧ job.owner = .frame)))) ∨
        (job.owner = .seed ∧
          (s.seq.awaitingSeed = false ∨ (s.seq.state ≠ .running ∧ s.seq.state ≠ .holding))) →
      exec (.converterJobEnd codes) s = .next (endEvent s { s with meter := { s.meter with frame := .empty } }))

/-- R148, R150: the voltage state and the below-critical mark that a sample leaves, row by row. -/
def Obligations.VoltageStateFollowsTheTable : Prop :=
  ∀ (p : Params) (q : Power) (v : Nat), p.vCrit + 100 ≤ p.vLow →
    (q.reEvaluate = false →
      (q.voltage = .normal →
        nextVoltage p q v =
          if v < p.vCrit then (.low, true) else if v < p.vLow then (.low, false) else (.normal, false)) ∧
      (q.voltage = .low → q.belowCritical = false →
        nextVoltage p q v =
          if v < p.vCrit then (.low, true)
          else if v < p.vLow + p.hysteresis then (.low, false) else (.normal, false)) ∧
      (q.voltage = .low → q.belowCritical = true →
        nextVoltage p q v =
          if v < p.vCrit then (.critical, false)
          else if v < p.vLow + p.hysteresis then (.low, false) else (.normal, false)) ∧
      (q.voltage = .critical →
        nextVoltage p q v = if p.vCrit + p.hysteresis ≤ v then (.low, false) else (.critical, false))) ∧
    (q.reEvaluate = true →
      nextVoltage p q v =
        if p.vLow ≤ v then (.normal, false) else if p.vCrit ≤ v then (.low, false) else (.low, true))

/-- R62 to R64, R146, R149, R156, R163: the ends of a BATTERY, a SOLAR and a TEMPERATURE job, their results in mV, mA and
quarter °C. A battery sample that leaves the voltage state as it was hands nothing on. One that enters LOW or CRITICAL raises its
alert and forms the levels; CRITICAL arises as the cause POWER, which enters hold in ARMED and RUNNING, is offered to the latch in
HOLDING and HOLD (R133), and is dropped elsewhere; leaving CRITICAL discards a latched POWER, and leaving LOW for NORMAL forms the levels alone. In HOLD the sample also drives the
recovery timer (R142). Codes beyond a job's own are not looked at, and a row that comes later than the job's end is taken (entry 25). -/
def Obligations.PowerJobEndsDeliverTheirSamples : Prop :=
  (∀ (code : Code) (more : List Code) (job : JobRequest) (start n : Nat) (cal : Int) (s : State),
    isRunning s.meter.frame = false → start + 2 ≤ s.tb.runCounter →
    (∀ (v : Nat) (m : Meter) (p : Power), s.meter.battery = .running job start n cal → v = code.toNat * 4 →
      m = { s.meter with battery := .empty } →
      p =
        { s.pow with
          battery := some v, reEvaluate := false, voltage := (nextVoltage s.params s.pow v).1
          belowCritical := (nextVoltage s.params s.pow v).2 } →
      (p.voltage = s.pow.voltage →
        exec (.converterJobEnd (code :: more)) s =
          .next (endEvent s (recoverySample v { s with meter := m, pow := p }))) ∧
      (s.pow.voltage = .low → p.voltage = .normal →
        exec (.converterJobEnd (code :: more)) s =
          .next (endEvent s (recoverySample v (settleLevels { s with meter := m, pow := p })))) ∧
      (s.pow.voltage = .normal → p.voltage = .low →
        exec (.converterJobEnd (code :: more)) s = .next (endEvent s (recoverySample v (settleLevels
          { s with meter := m, pow := p, line := { s.line with alerts := s.line.alerts ||| 0x0020 } })))) ∧
      (∀ t : State, s.pow.voltage = .low → p.voltage = .critical →
        t = { s with meter := m, pow := p, line := { s.line with alerts := s.line.alerts ||| 0x0040 } } →
        (s.seq.state = .idle ∨ s.seq.state = .ended ∨ (s.seq.state = .running ∧ s.seq.stopPending = true) ∨
            (s.seq.state = .holding ∧ s.seq.ending = true) →
          exec (.converterJobEnd (code :: more)) s = .next (endEvent s (settleLevels t))) ∧
        (s.seq.state = .armed ∨ (s.seq.state = .running ∧ s.seq.stopPending = false) →
          exec (.converterJobEnd (code :: more)) s =
            .next (endEvent s (recoverySample v (settleLevels (holdEntry .power .current t))))) ∧
        (∀ h : HoldData, s.seq.hold = some h → s.seq.state = .hold ∨ (s.seq.state = .holding ∧ s.seq.ending = false) →
          exec (.converterJobEnd (code :: more)) s = .next (endEvent s (recoverySample v (settleLevels
            { t with
              seq := { s.seq with hold := some (if h.latch = none then { h with latch := some .power } else h) } })))) ∧
        (s.seq.state = .running → s.seq.stopPending = false →
          ∃ (u : State) (h : HoldData), exec (.converterJobEnd (code :: more)) s = .next (endEvent s u) ∧
            (u.seq.state = .holding ∨ u.seq.state = .hold) ∧ u.seq.hold = some h ∧ h.cause = .power ∧
            u.pow.voltage = .critical ∧ u.pow.battery = some v ∧ u.line.alerts &&& 0x0040 ≠ 0 ∧
            u.ramp = s.ramp ∧ u.tb = s.tb ∧ u.params = s.params)) ∧
      (s.pow.voltage = .critical → p.voltage = .low →
        (s.seq.hold = none →
          exec (.converterJobEnd (code :: more)) s =
            .next (endEvent s (settleLevels { s with meter := m, pow := p }))) ∧
        ∀ h : HoldData, s.seq.hold = some h →
          exec (.converterJobEnd (code :: more)) s = .next (endEvent s (recoverySample v (settleLevels
            { s with
              meter := m, pow := p
              seq :=
                { s.seq with hold := some (if h.latch = some .power then { h with latch := none } else h) } }))))) ∧
    (isRunning s.meter.battery = false → isRunning s.meter.temperature = false → s.meter.solar = .running job start n cal →
      exec (.converterJobEnd (code :: more)) s = .next (endEvent s (settleLevels
        { s with
          meter := { s.meter with solar := .empty }
          pow :=
            { s.pow with
              solar := some (code.toNat / 2)
              account := min (s.pow.account + code.toNat / 2 * 64) (s.params.capacity * 3600) } }))) ∧
    (isRunning s.meter.battery = false → s.meter.temperature = .running job start n cal →
      exec (.converterJobEnd (code :: more)) s = .next (endEvent s
        { s with
          meter := { s.meter with temperature := .empty }
          pow :=
            { s.pow with
              temperature := some ((code.toNat : Int) - 800)
              pendingDuty :=
                if s.pow.eligible = true then
                  (max 0 (min (s.params.dutyMax : Int)
                    ((s.params.slope : Int) * (s.params.tOn - ((code.toNat : Int) - 800)) / 4))).toNat
                else s.pow.pendingDuty } }))) ∧
  (∀ (v : Nat) (s : State), s.seq.state ≠ .hold → recoverySample v s = s)

/-! ## The camera and its link -/

/-- R108, R110, R88, R89: the moments before the exposure. The meter lead of a frame in WAKING makes it PREPARING and asks for
its metering; the focus lead asserts FOCUS; the end of the setting record makes the exchange AWAITING; in AWAITING a lead byte
begins a reply record and a byte error abandons the record under assembly, with the exchange left open. -/
def Obligations.MomentsBeforeTheExposureAreTaken : Prop :=
  ∀ (f : Frame) (at_ : Nat) (s : State), s.cam.frame = some f → at_ ≤ s.tb.runCounter →
    (s.cam.phase = .waking → f.meterAt = some at_ →
      exec .meterLead s = .next (endEvent s
        (meterRequest .frame (if f.kind = .run then .frame else .test) (segmentAt s f.slot).rounding
          { s with
            cam := { s.cam with phase := .preparing, frame := some { f with meterAt := none, meteringOpen := true } } }))) ∧
    (s.cam.phase = .setting ∨ s.cam.phase = .waitDue → f.focusAt = some at_ →
      exec .focusLead s = .next (endEvent s
        { s with cam := { s.cam with focus := true, frame := some { f with focusAt := none } } })) ∧
    (s.cam.exchange = .sending →
      exec .settingRecordSent s = .next (endEvent s { s with cam := { s.cam with exchange := .awaiting } })) ∧
    (s.cam.exchange = .awaiting → s.cam.assembling = false →
      exec .replyLeadByte s = .next (endEvent s { s with cam := { s.cam with assembling := true } })) ∧
    (s.cam.exchange = .awaiting →
      exec .accessoryByteError s = .next (endEvent s { s with cam := { s.cam with assembling := false } })) ∧
    (s.cam.exchange ≠ .awaiting →
      exec .replyLeadByte s = .next s ∧ exec .accessoryByteError s = .next s ∧
      ∀ status mode shutter gain checksum : Byte, exec (.replyRecord status mode shutter gain checksum) s = .next s)

/-- R108, R109, R70, R80, R89, R93: the setting lead of a run frame. A camera without power or READY misses the frame with
cause CAMERA_WAKE: one record of what the frame had reached (R172, R175), one fault, no computation. A ready camera takes the
computation: E_prev becomes E_t, the flags join the sticky set, and the exchange opens with the requested codes, or with the link
absent the record is finished. R58: a frame whose metering has not come takes L_last, or the DARK floor where L_last is unset, which
R58 says of a test shot and entry 30 of a run frame. R70, R72: what the computation reads. R81, R121, R122: the setting lead of a
test shot. Its readiness failure writes its record as MISSED, raises TEST_DONE and counts no fault; the shot carries no flags there
(entry 47). Its computation reads slot 0, its own metered value and no bias fraction, and touches neither the run's filter and E_prev
nor the sticky set. -/
def Obligations.SettingLeadMissesOrComputesTheFrame : Prop :=
  (∀ (f : Frame) (at_ : Nat) (m : Metered) (s : State), s.cam.frame = some f → f.kind = .run → s.cam.phase = .preparing →
    f.settingAt = some at_ → at_ ≤ s.tb.runCounter →
    f.metered = some m ∨
      (f.metered = none ∧
        m = { value := s.meter.lLast.getD (-104 + s.params.calibration), dark := false, late := true }) →
    (¬(s.cam.power = true ∧ s.cam.ready = true) → s.prog.commitPending = false → f.exposure = none →
      ∃ (t : State) (r : LogRecord), exec .settingLead s = .next (endEvent s t) ∧
        t.log = storeRecord s.params.logSize r s.log ∧ r.outcome = .missed ∧ r.cause = .cameraWake ∧
        r.frame = f.number ∧ r.segment = f.slot ∧ r.lAvg = some m.value ∧ r.eT = none ∧ r.mode = none ∧ r.value = 0 ∧
        r.gain = none ∧ r.residual = none ∧ RecordsFrame s { f with metered := some m } r ∧
        r.level = t.pow.budgetLevel ∧ t.cam.frame = none ∧ t.cam.power = false ∧
        t.cam.faultCount = min (s.cam.faultCount + 1) 15 ∧ t.line.alerts &&& 0x0010 ≠ 0 ∧ t.ramp = s.ramp ∧
        t.tb = s.tb ∧ t.prog = s.prog ∧ t.params = s.params) ∧
    (s.cam.power = true → s.cam.ready = true →
      ∃ (t : State) (e : Exposure) (f' : Frame), exec .settingLead s = .next (endEvent s t) ∧
        e = computeExposure (runInput s f) ∧ t.cam.frame = some f' ∧ f'.metered = some m ∧ f'.meteringOpen = false ∧
        f'.settingAt = none ∧ f'.flags = computeFlags (runInput s f) m f.factor ∧ t.ramp.ePrev = some e.eT ∧
        t.ramp.f = s.ramp.f ∧ t.ramp.sticky = s.ramp.sticky ||| (f'.flags &&& 0x001F) ∧
        (t.line.alerts = if f'.flags &&& 0x0003 = 0 then s.line.alerts else s.line.alerts ||| 0x0400) ∧
        t.cam.focus = (s.cam.focus || decide (f.leads.setting ≤ f.leads.focus)) ∧
        (s.params.linkPresent = 1 →
          t.cam.phase = .setting ∧ t.cam.exchange = .sending ∧ f'.exposure = some e ∧
          t.cam.setting = some { mode := e.mode, shutter := e.sReq, gain := e.gReq } ∧
          t.cam.replyWindowAt = some (s.tb.runCounter + 192)) ∧
        (s.params.linkPresent ≠ 1 →
          t.cam.phase = .waitDue ∧ t.cam.exchange = s.cam.exchange ∧
          f'.exposure = some { e with applied := some { value := e.ticks, gain := 0, residual := 0 } }) ∧
        t.seq = s.seq ∧ t.log = s.log ∧ t.meter = s.meter ∧ t.pow = s.pow ∧ t.tb = s.tb ∧ t.prog = s.prog ∧
        t.params = s.params)) ∧
  (∀ (f : Frame) (at_ : Nat) (m : Metered) (s : State), s.cam.frame = some f → f.kind = .test → s.cam.phase = .preparing →
    f.settingAt = some at_ → at_ ≤ s.tb.runCounter →
    f.metered = some m ∨
      (f.metered = none ∧
        m = { value := s.meter.lLast.getD (-104 + s.params.calibration), dark := false, late := true }) →
    (¬(s.cam.power = true ∧ s.cam.ready = true) → f.exposure = none → s.seq.state ≠ .running →
      ∃ t : State, exec .settingLead s = .next (endEvent s t) ∧
        t.cam.testRecord =
          { state := .done, outcome := some .missed, due := f.due, metered := some m, eT := none, mode := none
            applied := none, flags := f.flags, syncSeen := f.syncSeen } ∧
        t.line = { s.line with alerts := s.line.alerts ||| 0x0800 } ∧ t.ramp = { s.ramp with test := none } ∧
        t.cam.frame = none ∧ t.cam.power = false ∧ t.cam.faultCount = s.cam.faultCount ∧
        t.cam.phase = (if s.cam.cooldownEnd = none then .off else .cooldown) ∧ t.seq = s.seq ∧ t.log = s.log ∧
        t.meter = s.meter ∧ t.tb = s.tb ∧ t.prog = s.prog ∧ t.params = s.params) ∧
    (s.cam.power = true → s.cam.ready = true →
      ∃ (t : State) (i : ComputeInput) (e : Exposure) (f' : Frame), exec .settingLead s = .next (endEvent s t) ∧
        i =
          { seg := segmentAt s 0, f := 16 * m.value, ePrev := none, fraction := none
            iEff := (segmentAt s 0).interval * stretch s, k := s.params.k, overhead := s.params.overhead
            bulbThreshold := s.params.bulbThreshold, link := decide (s.params.linkPresent = 1) } ∧
        e = computeExposure i ∧ t.cam.frame = some f' ∧ f'.kind = .test ∧ f'.due = f.due ∧ f'.metered = some m ∧
        f'.meteringOpen = false ∧ f'.settingAt = none ∧ f'.flags = computeFlags i m (stretch s) ∧
        t.ramp = { s.ramp with test := some { f := some (16 * m.value), ePrev := some e.eT } } ∧ t.line = s.line ∧
        t.cam.focus = (s.cam.focus || decide (f.leads.setting ≤ f.leads.focus)) ∧
        (s.params.linkPresent = 1 →
          t.cam.phase = .setting ∧ t.cam.exchange = .sending ∧ f'.exposure = some e ∧
          t.cam.setting = some { mode := e.mode, shutter := e.sReq, gain := e.gReq } ∧
          t.cam.replyWindowAt = some (s.tb.runCounter + 192)) ∧
        (s.params.linkPresent ≠ 1 →
          t.cam.phase = .waitDue ∧ t.cam.exchange = s.cam.exchange ∧
          f'.exposure = some { e with applied := some { value := e.ticks, gain := 0, residual := 0 } }) ∧
        t.seq = s.seq ∧ t.log = s.log ∧ t.meter = s.meter ∧ t.pow = s.pow ∧ t.tb = s.tb ∧ t.prog = s.prog ∧
        t.params = s.params)) ∧
  (∀ (f : Frame) (c : Current) (s : State), s.seq.current = some c →
    runInput s f =
      { seg := segmentAt s f.slot, f := s.ramp.f, ePrev := s.ramp.ePrev
        fraction :=
          match (segmentAt s f.slot).term with
          | .frames => some ((c.entry.exposureCount : Int), ((segmentAt s f.slot).termArg.toNat : Int))
          | .duration =>
            some (((s.tb.runCounter - c.entry.runTime) / 1024 : Nat), ((segmentAt s f.slot).termArg.toNat : Int))
          | .clock => c.entry.w0.bind fun w0 => c.entry.span.map fun span => ((s.tb.seconds : Int) - w0, (span : Int))
          | .lightBelow | .lightAbove | .levelBelow | .forever => none
        iEff := f.iEff, k := s.params.k, overhead := s.params.overhead, bulbThreshold := s.params.bulbThreshold
        link := decide (s.params.linkPresent = 1) })

/-- R90, R94 to R98: the close of an exchange by a complete reply. A correct APPLIED reply in the frame's mode gives the applied
values and the residual and updates the last-known settings; one in the other mode updates them and fails. Any failure flags SET_FAIL
and takes the last-known settings, compensating a BULB frame whose camera is in BULB; with the settings UNKNOWN or of the other mode
the frame is taken as computed, flagged RESID_UNKNOWN. R100: a test shot's exchange closes in the same way and adds nothing to the
sticky set. -/
def Obligations.ReplyRecordClosesTheExchange : Prop :=
  ∀ (f : Frame) (e : Exposure) (status mode shutter gain checksum : Byte) (s : State), s.cam.frame = some f →
    f.exposure = some e → s.cam.exchange = .awaiting → s.cam.assembling = true →
    ∃ (t : State) (flags : Half) (e' : Exposure),
      exec (.replyRecord status mode shutter gain checksum) s = .next (endEvent s t) ∧
      t.cam.exchange = .idle ∧ t.cam.phase = .waitDue ∧ t.cam.assembling = false ∧ t.cam.replyWindowAt = none ∧
      t.cam.frame = some { f with exposure := some e', flags := f.flags ||| flags } ∧
      t.ramp =
        (if f.kind = .run then { s.ramp with sticky := s.ramp.sticky ||| (flags &&& 0x00A0) } else s.ramp) ∧
      t.seq = s.seq ∧ t.pow = s.pow ∧ t.log = s.log ∧ t.line = s.line ∧ t.meter = s.meter ∧ t.tb = s.tb ∧
      t.prog = s.prog ∧ t.params = s.params ∧
      (0xA9 + status + mode + shutter + gain + checksum = 0 → status = 0x01 →
        (mode = 0x02 → t.cam.settings = some { mode := .timed, shutter := shutter.toInt, gain := gain.toNat }) ∧
        (mode = 0x01 → t.cam.settings = some { mode := .bulb, shutter := shutter.toInt, gain := gain.toNat }) ∧
        (e.mode = .timed → mode = 0x02 →
          flags = 0 ∧
          e' =
            { e with
              applied :=
                some
                  { value := shutter.toInt, gain := gain.toNat
                    residual := max (-127) (min 127 (e.eT - 2 * (shutter.toInt + gain.toNat))) } }) ∧
        (e.mode = .bulb → mode = 0x01 →
          flags = 0 ∧
          e' =
            { e with
              applied :=
                some
                  { value := e.ticks, gain := gain.toNat
                    residual := max (-127) (min 127 (e.eT - (e.d + 2 * gain.toNat))) } }) ∧
        ((e.mode = .bulb ∧ mode = 0x02) ∨ (e.mode = .timed ∧ mode = 0x01) →
          flags = 0x0820 ∧
          e' =
            { e with
              applied :=
                some { value := if e.mode = .timed then e.sReq else e.ticks, gain := e.gReq, residual := 0 } })) ∧
      (0xA9 + status + mode + shutter + gain + checksum ≠ 0 ∨ status ≠ 0x01 ∨ (mode ≠ 0x01 ∧ mode ≠ 0x02) →
        t.cam.settings = s.cam.settings ∧
        (∀ (sh gn : Int), e.mode = .timed → s.cam.settings = some { mode := .timed, shutter := sh, gain := gn } →
          flags = 0x0020 ∧
          e' =
            { e with
              applied :=
                some { value := sh, gain := gn, residual := max (-127) (min 127 (e.eT - 2 * (sh + gn))) } }) ∧
        (∀ (sh gn : Int), e.mode = .bulb → e.dLo ≤ e.dCap →
          s.cam.settings = some { mode := .bulb, shutter := sh, gain := gn } →
          flags = 0x00A0 ∧
          e' =
            { e with
              ticks := bulbTicks e.rounding e.avail (max e.dLo (min e.dCap (e.d + e.g - 2 * gn)))
              applied :=
                some
                  { value := bulbTicks e.rounding e.avail (max e.dLo (min e.dCap (e.d + e.g - 2 * gn)))
                    gain := gn
                    residual :=
                      max (-127) (min 127
                        (e.eT - (max e.dLo (min e.dCap (e.d + e.g - 2 * gn)) + 2 * gn))) } }) ∧
        (s.cam.settings = none ∨
            (∃ sh gn : Int,
              (e.mode = .timed ∧ s.cam.settings = some { mode := .bulb, shutter := sh, gain := gn }) ∨
              (e.mode = .bulb ∧ s.cam.settings = some { mode := .timed, shutter := sh, gain := gn })) →
          flags = 0x0820 ∧
          e' =
            { e with
              applied :=
                some { value := if e.mode = .timed then e.sReq else e.ticks, gain := e.gReq, residual := 0 } }))

/-- R91, R111, R112: the reply window's expiry fails the exchange with TIMEOUT; d opens the shutter for the hold of the
record, 128 ticks for a TIMED frame, with the sync window, and flags SET_LATE a frame whose exchange is still open; the end of
the hold releases SHUT and FOCUS and begins WRITING with the drop watch. -/
def Obligations.DueTimeOpensAndTheHoldEndsTheExposure : Prop :=
  ∀ (f : Frame) (e : Exposure) (at_ : Nat) (s : State), s.cam.frame = some f → f.exposure = some e →
    at_ ≤ s.tb.runCounter →
    (s.cam.exchange = .sending ∨ s.cam.exchange = .awaiting → s.cam.replyWindowAt = some at_ →
      exec .replyWindowExpiry s = .next (endEvent s (closeExchange (.failure .timeout) 0 s)) ∧
      (closeExchange (.failure .timeout) 0 s).cam.exchange = .idle ∧
      (closeExchange (.failure .timeout) 0 s).cam.phase = .waitDue ∧
      ∃ f' : Frame, (closeExchange (.failure .timeout) 0 s).cam.frame = some f' ∧ f'.flags &&& 0x0020 = 0x0020 ∧
        f'.flags &&& 0x0040 = f.flags &&& 0x0040) ∧
    (s.cam.phase = .setting ∨ s.cam.phase = .waitDue → f.dueAt = some at_ →
      ∃ (t : State) (f' : Frame), exec .dueTime s = .next (endEvent s t) ∧ t.cam.frame = some f' ∧
        t.cam.phase = .exposing ∧ t.cam.shut = true ∧ t.cam.exchange = .idle ∧
        t.cam.focus = (s.cam.focus || decide (f.leads.focus = 0)) ∧
        t.cam.shutterAt = some (s.tb.runCounter +
          (match f'.exposure with
            | some e' => if e'.mode = .bulb then e'.ticks else 128
            | none => 128)) ∧
        t.cam.syncWindowAt =
          (if s.params.syncWindow = 0 then none else some (s.tb.runCounter + s.params.syncWindow)) ∧
        f'.hasWindow = decide (s.params.syncWindow ≠ 0) ∧ f'.syncSeen = f.syncSeen ∧ f'.number = f.number ∧
        (s.cam.exchange = .idle → f'.exposure = some e ∧ f'.flags = f.flags) ∧
        (s.cam.exchange ≠ .idle → f'.flags &&& 0x0060 = 0x0060) ∧
        t.seq = s.seq ∧ t.pow = s.pow ∧ t.log = s.log ∧ t.line = s.line ∧ t.meter = s.meter ∧ t.tb = s.tb) ∧
    (s.cam.phase = .exposing → s.cam.shutterAt = some at_ →
      exec .shutterHoldExpiry s = .next (endEvent s
        { s with
          cam :=
            { s.cam with
              phase := .writing, shut := false, focus := false, shutterAt := none
              stage := if s.cam.ready = true then .dropWatch (s.tb.runCounter + 32) else .inProgress
              writeTimeoutAt := some (s.tb.runCounter + s.params.writeTimeout) } }))

/-- R111, R112, R113, R115: READY and SYNC in WRITING, and the outcome of a run frame whose write completes. READY falling in
the drop watch puts the write in progress; a closure in the open window sets the mark, and a closure row means that the contact had
opened since the last (entry 8). A write complete while the window is open and unseen waits for the closure or the window's expiry.
A frame written with its window closed unseen is UNCONFIRMED and counts a fault; otherwise it is TAKEN and the count is 0. The
outcome goes to the frame boundary, and then the frame is charged (R155). R37, R18, R41: what the boundary counts, stores, resolves
and evaluates, in RUNNING and in HOLDING. In ENDED the marks stay and no grid stands (entries 19 and 20); a stretch change during the
frame is the mark of entry 15. R121, R122: a test shot's outcome is settled in the same way, switches the camera off, is written to
the test-shot record with TEST_DONE, and is charged; it touches neither the fault count nor the log nor the sequencer. -/
def Obligations.WritingEndsInTheFramesOutcome : Prop :=
  (∀ (f : Frame) (s : State), s.cam.frame = some f → f.kind = .run → s.cam.phase = .writing →
    (∀ at_ : Nat, s.cam.ready = true → s.cam.stage = .dropWatch at_ →
      exec (.readyChange false) s =
        .next (endEvent s { s with cam := { s.cam with ready := false, stage := .inProgress } })) ∧
    (∀ (w : Nat), s.cam.stage ≠ .complete → s.cam.syncWindowAt = some w →
      exec .syncClosure s = .next (endEvent s
        { s with cam := { s.cam with syncClosed := true, frame := some { f with syncSeen := true } } }) ∧
      (w ≤ s.tb.runCounter →
        exec .syncWindowExpiry s = .next (endEvent s { s with cam := { s.cam with syncWindowAt := none } }))) ∧
    (s.cam.syncWindowAt = none → s.cam.stage ≠ .complete →
      exec .syncClosure s = .next (endEvent s { s with cam := { s.cam with syncClosed := true } })) ∧
    (∀ w at_ : Nat, f.hasWindow = true → f.syncSeen = false → s.cam.syncWindowAt = some w →
      (s.cam.ready = false → s.cam.stage = .inProgress →
        exec (.readyChange true) s = .next (endEvent s
          { s with cam := { s.cam with ready := true, stage := .complete, writeTimeoutAt := none } })) ∧
      (s.cam.stage = .dropWatch at_ → at_ ≤ s.tb.runCounter →
        exec .dropWatchExpiry s =
          .next (endEvent s { s with cam := { s.cam with stage := .complete, writeTimeoutAt := none } }))) ∧
    (s.prog.commitPending = false → s.cam.syncWindowAt = none →
      ∀ (c : Instr) (at_ : Nat),
        (c = .readyChange true ∧ s.cam.ready = false ∧ s.cam.stage = .inProgress) ∨
          (c = .dropWatchExpiry ∧ s.cam.stage = .dropWatch at_ ∧ at_ ≤ s.tb.runCounter) →
        ∃ (t : State) (r : LogRecord), exec c s = .next (endEvent s t) ∧
          t.log = storeRecord s.params.logSize r s.log ∧ r.cause = .none ∧ r.frame = f.number ∧ r.segment = f.slot ∧
          r.run = s.seq.runNumber ∧ r.lAvg = f.metered.map (fun m => m.value) ∧
          r.eT = f.exposure.map (fun e => e.eT) ∧ r.mode = f.exposure.map (fun e => e.mode) ∧
          r.value = ((f.exposure.bind fun e => e.applied).map fun a => a.value).getD 0 ∧
          r.outcome = (if f.hasWindow = true ∧ f.syncSeen = false then .unconfirmed else .taken) ∧
          t.cam.faultCount =
            (if f.hasWindow = true ∧ f.syncSeen = false then min (s.cam.faultCount + 1) 15 else 0) ∧
          t.cam.frame = none ∧ (t.cam.phase = .off ∧ t.cam.power = false ∨ t.cam.phase = .idleOn) ∧
          t.cam.stage = .none ∧ t.cam.writeTimeoutAt = none ∧ t.ramp = s.ramp ∧ t.prog = s.prog ∧ t.tb = s.tb ∧
          t.params = s.params) ∧
    (∀ (c : Instr) (at_ : Nat) (f' : Frame),
      (f' = f ∧ (s.cam.syncWindowAt = none ∨ f.hasWindow = false ∨ f.syncSeen = true) ∧
          ((c = .readyChange true ∧ s.cam.ready = false ∧ s.cam.stage = .inProgress) ∨
            (c = .dropWatchExpiry ∧ s.cam.stage = .dropWatch at_ ∧ at_ ≤ s.tb.runCounter))) ∨
        (s.cam.stage = .complete ∧ s.cam.syncWindowAt = some at_ ∧
          ((c = .syncClosure ∧ f' = { f with syncSeen := true }) ∨
            (c = .syncWindowExpiry ∧ f' = f ∧ at_ ≤ s.tb.runCounter))) →
      ∃ (u : State) (r : Report), exec c s = .next (endEvent s (chargeFrame (frameBoundary r u))) ∧
        r.frame = f' ∧ r.cause = .none ∧ r.byStop = false ∧
        r.value = ((f.exposure.bind fun e => e.applied).map fun a => a.value).getD 0 ∧
        r.outcome = (if f'.hasWindow = true ∧ f'.syncSeen = false then .unconfirmed else .taken) ∧
        (r.faultLimit = true ↔ r.outcome = .unconfirmed ∧ s.params.faultLimit ≤ u.cam.faultCount) ∧
        u.cam.faultCount = (if r.outcome = .unconfirmed then min (s.cam.faultCount + 1) 15 else 0) ∧
        u.line = (if r.outcome = .unconfirmed then { s.line with alerts := s.line.alerts ||| 0x0010 } else s.line) ∧
        u.cam.frame = none ∧ (u.cam.phase = .off ∧ u.cam.power = false ∨ u.cam.phase = .idleOn) ∧
        u.cam.stage = .none ∧ u.cam.writeTimeoutAt = none ∧ u.cam.syncWindowAt = none ∧
        u.seq = { s.seq with stretchPending := u.seq.stretchPending } ∧ u.log = s.log ∧ u.ramp = s.ramp ∧
        u.prog = s.prog ∧ u.meter = s.meter ∧ u.tb = s.tb ∧ u.params = s.params)) ∧
  (∀ (f f' : Frame) (c : Instr) (at_ : Nat) (s : State), s.cam.frame = some f → f.kind = .test → s.cam.phase = .writing →
    s.seq.state ≠ .running →
    (f' = f ∧ (s.cam.syncWindowAt = none ∨ f.hasWindow = false ∨ f.syncSeen = true) ∧
        ((c = .readyChange true ∧ s.cam.ready = false ∧ s.cam.stage = .inProgress) ∨
          (c = .dropWatchExpiry ∧ s.cam.stage = .dropWatch at_ ∧ at_ ≤ s.tb.runCounter))) ∨
      (s.cam.stage = .complete ∧ s.cam.syncWindowAt = some at_ ∧
        ((c = .syncClosure ∧ f' = { f with syncSeen := true }) ∨
          (c = .syncWindowExpiry ∧ f' = f ∧ at_ ≤ s.tb.runCounter))) →
    ∃ u : State, exec c s = .next (endEvent s (chargeFrame u)) ∧
      u.cam.testRecord =
        { state := .done
          outcome := some (if f'.hasWindow = true ∧ f'.syncSeen = false then .unconfirmed else .taken)
          due := f.due, metered := f.metered, eT := f.exposure.map fun e => e.eT
          mode := f.exposure.map fun e => e.mode, applied := f.exposure.bind fun e => e.applied, flags := f.flags
          syncSeen := f'.syncSeen } ∧
      u.line = { s.line with alerts := s.line.alerts ||| 0x0800 } ∧ u.ramp = { s.ramp with test := none } ∧
      u.cam.frame = none ∧ u.cam.phase = .off ∧ u.cam.power = false ∧ u.cam.stage = .none ∧
      u.cam.writeTimeoutAt = none ∧ u.cam.syncWindowAt = none ∧ u.cam.faultCount = s.cam.faultCount ∧ u.seq = s.seq ∧
      u.log = s.log ∧ u.prog = s.prog ∧ u.meter = s.meter ∧ u.tb = s.tb ∧ u.params = s.params) ∧
  (∀ (r : Report) (c : Current) (s b : State), s.seq.current = some c → r.byStop = false → b = boundaryBook r s →
    (∃ rec : LogRecord, b.log = storeRecord s.params.logSize rec s.log ∧ rec.outcome = r.outcome ∧
      rec.cause = r.cause ∧ rec.frame = r.frame.number ∧ rec.segment = r.frame.slot ∧ rec.value = r.value) ∧
    (∃ e : Entry, b.seq.current = some { slot := c.slot, entry := e } ∧ e.runTime = c.entry.runTime ∧
      e.w0 = c.entry.w0 ∧ e.span = c.entry.span ∧
      e.exposureCount =
        (if r.outcome = .taken ∨ r.outcome = .unconfirmed then min (c.entry.exposureCount + 1) 65535
        else c.entry.exposureCount) ∧
      (∀ m : Metered, s.seq.state = .running → s.seq.stopPending = false → r.frame.metered = some m → m.late = false →
        ((segmentAt s c.slot).term = .lightBelow →
          e.debounce =
            if m.value < (segmentAt s c.slot).termArg.toInt then min (c.entry.debounce + 1) 3 else 0) ∧
        ((segmentAt s c.slot).term = .lightAbove →
          e.debounce =
            if (segmentAt s c.slot).termArg.toInt ≤ m.value then min (c.entry.debounce + 1) 3 else 0)) ∧
      (s.seq.state ≠ .running ∨ s.seq.stopPending = true ∨ (∃ m : Metered, r.frame.metered = some m ∧ m.late = true) ∨
          r.frame.metered = none ∨
          ((segmentAt s c.slot).term ≠ .lightBelow ∧ (segmentAt s c.slot).term ≠ .lightAbove) →
        e.debounce = c.entry.debounce)) ∧
    (s.prog.commitPending = false → b.prog = s.prog ∧ b.seq.hold = s.seq.hold) ∧
    (s.prog.commitPending = true →
      b.prog = { s.prog with active := otherBank s.prog.active, commitPending := false } ∧
      b.line.alerts &&& 0x0008 ≠ 0 ∧
      ∀ h : HoldData, s.seq.state = .holding → s.seq.hold = some h → h.heldFrom = .running →
        b.seq.hold = some { h with resumeSlot := some 0, fresh := true, exposureCount := 0, times := none }) ∧
    (s.seq.state = .running → s.seq.stopPending = true →
      frameBoundary r s =
        { b with
          seq :=
            { b.seq with
              state := .ended, grid := none, prepRegistered := false, stretchPending := false, awaitingSeed := false
              hold := none } }) ∧
    (s.seq.state = .running → s.seq.stopPending = false →
      (r.faultLimit = true →
        frameBoundary r s = holdEntry .camera (if s.prog.commitPending = true then .swapped else .current) b) ∧
      (r.faultLimit = false → s.prog.commitPending = true → frameBoundary r s = walkFrom 0 0 b) ∧
      (∀ (e : Entry) (v : State), r.faultLimit = false → s.prog.commitPending = false →
        (b.seq.current.map fun c' => takeW0 s.tb (segmentAt s c.slot) c'.entry) = some e →
        v = { b with seq := { b.seq with current := some { slot := c.slot, entry := e } } } →
        (terminationTrue s (segmentAt s c.slot) e = true → frameBoundary r s = walkNext c.slot v) ∧
        (terminationTrue s (segmentAt s c.slot) e = false →
          frameBoundary r s = if s.seq.stretchPending = true then reanchor v else v))) ∧
    (s.seq.state = .holding →
      (r.faultLimit = true → s.seq.ending = false → frameBoundary r s = offerLatch .camera b) ∧
      (r.faultLimit = false ∨ s.seq.ending = true → frameBoundary r s = b))) ∧
  (∀ (s : State), s.cam.phase ≠ .idleOn → s.pow.remainder < 1024000 →
    (chargeFrame s).pow.account = s.pow.account - s.params.frameCharge ∧
    (chargeFrame s).pow.remainder = s.pow.remainder ∧ (chargeFrame s).pow.lastAccrual = s.pow.lastAccrual ∧
    (chargeFrame s).pow.chargeLevel =
      nextChargeLevel s.pow.chargeLevel
        ((s.pow.account - s.params.frameCharge) * 1000 / (s.params.capacity * 3600)))

/-- R112, R114, R119: the write timeout and the cooldown. A run frame that times out is logged with WRITE_TIMEOUT and counts
one fault; a drain ends with no record and no fault; in both the camera is off in COOLDOWN for 2048 ticks. The cooldown end
gives OFF, or power to the frame handed meanwhile. A drain whose write completes, by READY rising or by the drop watch, ends with the
camera off. R121, R122: a test shot that times out is written to its record with WRITE_TIMEOUT, in COOLDOWN, and counts no fault. -/
def Obligations.WriteTimeoutCoolsTheCameraDown : Prop :=
  ∀ (at_ : Nat) (s : State), at_ ≤ s.tb.runCounter →
    (∀ f : Frame, s.cam.phase = .writing → s.cam.writeTimeoutAt = some at_ → s.cam.frame = some f → f.kind = .run →
      s.prog.commitPending = false →
      ∃ (t : State) (r : LogRecord), exec .writeTimeout s = .next (endEvent s t) ∧
        t.log = storeRecord s.params.logSize r s.log ∧ r.frame = f.number ∧
        r.outcome = (if f.hasWindow = true ∧ f.syncSeen = false then .unconfirmed else .taken) ∧
        (f.exposure ≠ none → r.flags &&& 0x0100 = 0x0100) ∧
        t.cam.faultCount = min (s.cam.faultCount + 1) 15 ∧ t.line.alerts &&& 0x0010 ≠ 0 ∧ t.cam.frame = none ∧
        t.cam.phase = .cooldown ∧ t.cam.power = false ∧ t.cam.cooldownEnd = some (s.tb.runCounter + 2048) ∧
        t.ramp = s.ramp ∧ t.prog = s.prog ∧ t.tb = s.tb) ∧
    (s.cam.frame = none → s.cam.drain = true → s.cam.phase = .writing →
      (s.cam.writeTimeoutAt = some at_ →
        ∃ t : State, exec .writeTimeout s = .next (endEvent s t) ∧ t.cam.phase = .cooldown ∧ t.cam.power = false ∧
          t.cam.drain = false ∧ t.cam.cooldownEnd = some (s.tb.runCounter + 2048) ∧
          t.cam.faultCount = s.cam.faultCount ∧ t.log = s.log ∧ t.line = s.line ∧ t.ramp = s.ramp) ∧
      (∀ c : Instr,
        (c = .dropWatchExpiry ∧ s.cam.stage = .dropWatch at_) ∨
          (c = .readyChange true ∧ s.cam.ready = false ∧ s.cam.stage = .inProgress) →
        ∃ t : State, exec c s = .next (endEvent s t) ∧ t.cam.phase = .off ∧ t.cam.power = false ∧
          t.cam.drain = false ∧ t.cam.cooldownEnd = s.cam.cooldownEnd ∧ t.cam.faultCount = s.cam.faultCount ∧
          t.log = s.log ∧ t.line = s.line ∧ t.ramp = s.ramp)) ∧
    (∀ f : Frame, s.cam.phase = .writing → s.cam.writeTimeoutAt = some at_ → s.cam.frame = some f → f.kind = .test →
      s.seq.state ≠ .running →
      ∃ u : State, exec .writeTimeout s = .next (endEvent s (chargeFrame u)) ∧
        u.cam.testRecord =
          { state := .done
            outcome := some (if f.hasWindow = true ∧ f.syncSeen = false then .unconfirmed else .taken)
            due := f.due, metered := f.metered, eT := f.exposure.map fun e => e.eT
            mode := f.exposure.map fun e => e.mode, applied := f.exposure.bind fun e => e.applied
            flags := f.flags ||| 0x0100, syncSeen := f.syncSeen } ∧
        u.line = { s.line with alerts := s.line.alerts ||| 0x0800 } ∧ u.ramp = { s.ramp with test := none } ∧
        u.cam.frame = none ∧ u.cam.phase = .cooldown ∧ u.cam.power = false ∧
        u.cam.cooldownEnd = some (s.tb.runCounter + 2048) ∧ u.cam.faultCount = s.cam.faultCount ∧ u.seq = s.seq ∧
        u.log = s.log ∧ u.prog = s.prog ∧ u.tb = s.tb) ∧
    (s.cam.cooldownEnd = some at_ →
      (s.cam.phase = .cooldown →
        exec .cooldownEnd s = .next (endEvent s { s with cam := { s.cam with phase := .off, cooldownEnd := none } })) ∧
      (s.cam.phase = .waking ∨ s.cam.phase = .preparing →
        ∃ t : State, exec .cooldownEnd s = .next (endEvent s t) ∧ t.cam.power = true ∧
          t.cam = { s.cam with power := true, cooldownEnd := none } ∧ t.log = s.log ∧ t.line = s.line ∧
          t.ramp = s.ramp ∧ t.tb = s.tb))

/-! ## The power monitor -/

/-- R142, R143: at the expiry, 614,400 ticks after the timer started, the timer stops; auto-resume is taken as a RESUME with
SKIP, with RESUMED raised, exactly when the parameter is 1, the sequencer is in HOLD for POWER, and the host-requested mark is
clear. An expiry row before that time has no effect (entry 2). The first sample at or above V_crit + hysteresis in HOLD for POWER
starts a stopped timer, later ones leave it, and a sample below stops it. -/
def Obligations.RecoveryTimerOffersAutoResume : Prop :=
  (∀ (start : Nat) (h : HoldData) (s : State), s.pow.recovery = some start → s.seq.state = .hold → s.seq.hold = some h →
    (start + 614400 ≤ s.tb.runCounter →
      (s.params.autoResume = 1 → h.cause = .power → h.hostRequested = false →
        exec .recoveryTimerExpiry s = .next (endEvent s (raiseAlert .resumed
          (resumeRun false h { s with pow := { s.pow with recovery := none } }).1))) ∧
      (¬(s.params.autoResume = 1 ∧ h.cause = .power ∧ h.hostRequested = false) →
        exec .recoveryTimerExpiry s = .next (endEvent s { s with pow := { s.pow with recovery := none } }))) ∧
    (s.tb.runCounter < start + 614400 → exec .recoveryTimerExpiry s = .next s) ∧
    (∀ v : Nat, h.cause = .power → s.params.vCrit + s.params.hysteresis ≤ v → recoverySample v s = s) ∧
    (∀ v : Nat, h.cause = .power → v < s.params.vCrit + s.params.hysteresis →
      recoverySample v s = { s with pow := { s.pow with recovery := none } })) ∧
  (∀ (v : Nat) (h : HoldData) (s : State), s.pow.recovery = none → s.seq.state = .hold → s.seq.hold = some h →
    h.cause = .power →
    (s.params.vCrit + s.params.hysteresis ≤ v →
      recoverySample v s = { s with pow := { s.pow with recovery := some s.tb.runCounter } }) ∧
    (v < s.params.vCrit + s.params.hysteresis → recoverySample v s = s)) ∧
  (∀ (v : Nat) (h : HoldData) (s : State), s.seq.hold = some h → s.seq.state ≠ .hold ∨ h.cause ≠ .power →
    recoverySample v s = s)

/-- R146, R162, R164: the periodic compare asks for battery and solar and takes an accrual; the temperature compare asks every
16,384 ticks; a period start puts the pending duty in force and sets HEAT by the on-slot count, with the off edge registered;
the off edge switches HEAT off. The two requests of the periodic compare wait for the converter together, in either order; which an
idle converter takes is free (R49, R63, entry 42). -/
def Obligations.PowerComparesAreServed : Prop :=
  ∀ s : State,
    (s.pow.periodicAt ≤ s.tb.runCounter →
      exec .periodicCompare s = .next (endEvent s (accrual
        (meterRequest .solar .power .down (meterRequest .battery .power .down
          { s with pow := { s.pow with periodicAt := (s.tb.runCounter / 65536 + 1) * 65536 } }))))) ∧
    meterRequest .solar .power .down (meterRequest .battery .power .down s) =
      meterRequest .battery .power .down (meterRequest .solar .power .down s) ∧
    (∀ at_ : Nat, s.pow.eligible = true → s.pow.temperatureAt = some at_ → at_ ≤ s.tb.runCounter →
      exec .temperatureCompare s = .next (endEvent s (meterRequest .temperature .power .down
        { s with pow := { s.pow with temperatureAt := some (at_ + 16384) } }))) ∧
    (∀ at_ : Nat, s.pow.eligible = true → s.pow.heatPeriodAt = some at_ → at_ ≤ s.tb.runCounter →
      exec .heaterPeriodStart s = .next (endEvent s
        (setHeat (decide (onSlots s.pow.pendingDuty (s.tb.runCounter / 2048 % 8) ≠ 0))
          { s with
            pow :=
              { s.pow with
                duty := s.pow.pendingDuty
                heatPeriodAt := some (s.tb.runCounter / 2048 * 2048 + 2048)
                heatOffAt :=
                  if 1 ≤ onSlots s.pow.pendingDuty (s.tb.runCounter / 2048 % 8) ∧
                    onSlots s.pow.pendingDuty (s.tb.runCounter / 2048 % 8) ≤ 31 then
                    some (s.tb.runCounter / 2048 * 2048 +
                      onSlots s.pow.pendingDuty (s.tb.runCounter / 2048 % 8) * 64)
                  else none } }))) ∧
    (∀ at_ : Nat, s.pow.heatOffAt = some at_ → at_ ≤ s.tb.runCounter →
      exec .heaterOffEdge s =
        .next (endEvent s (setHeat false { s with pow := { s.pow with heatOffAt := none } }))) ∧
    (∀ on : Bool, (setHeat on s).pow.heat = on ∧ (setHeat on s).pow.eligible = s.pow.eligible ∧
      (s.pow.heat ≠ on → (setHeat on s).pow.lastAccrual = s.tb.runCounter ∧
        (setHeat on s).pow.account ≤ s.pow.account))

/-! ## Arithmetic -/

/-- R164: over eight consecutive periods, from any index, the on-slots of a duty d in 0..255 total d; and no period has more
than 32. -/
def Obligations.HeaterDutyIsExactOverEightPeriods : Prop :=
  ∀ d j : Nat, d < 256 →
    ((List.range 8).map fun k => onSlots d ((j + k) % 8)).sum = d ∧ onSlots d (j % 8) ≤ 32

/-- R67, R72, R73, R74, R86: the rounding function, the bias, the raw target, the mode's target and the requested codes, as formulas.
R74, R78, R80: when a computation flags SAT_HI, SAT_LO, SLEW, DARK, METER_LATE and STRETCHED, and that it flags nothing else.
R69, R74, R78, R83, R85: the filter stays between its previous value and 16·Lavg; D_lo ≤ D ≤ Dcap, 0 ≤ G ≤ the effective
G_max and E_t = D + G; the bulb ticks lie in 1..avail; and in RAMP the target moves from the previous one by at most the slew
unless it lies at a bound. The cap never exceeds the frame's available time, and an absent link leaves no gain. -/
def Obligations.ExposureArithmeticKeepsItsBounds : Prop :=
  (∀ (mode : Rounding) (k : Nat) (f lAvg : Int),
    min f (16 * lAvg) ≤ filterStep mode k f lAvg ∧ filterStep mode k f lAvg ≤ max f (16 * lAvg)) ∧
  (∀ num den : Int, 0 < den →
    (rnd .down num den * den ≤ num ∧ num < (rnd .down num den + 1) * den) ∧
    (2 * (rnd .nearest num den * den) ≤ 2 * num + den ∧ 2 * num + den < 2 * ((rnd .nearest num den + 1) * den))) ∧
  (∀ i : ComputeInput,
    let e := computeExposure i
    (i.fraction = none → e.bias = i.seg.biasStart) ∧
    (∀ num den : Int, i.fraction = some (num, den) → 0 < den →
      e.bias = i.seg.biasStart +
        rnd i.seg.rounding ((i.seg.biasEnd - i.seg.biasStart) * max 0 (min den num)) den) ∧
    e.eRaw = i.k - rnd i.seg.rounding i.f 16 + e.bias ∧
    (i.seg.mode = .fixed → e.eS = i.seg.fixedE) ∧
    (∀ p : Int, i.ePrev = some p →
      (i.seg.mode = .ramp → e.eS = p + max (-(i.seg.slew : Int)) (min (i.seg.slew : Int) (e.eRaw - p))) ∧
      (i.seg.mode = .holdLast → e.eS = p)) ∧
    (i.ePrev = none → i.seg.mode ≠ .fixed → e.eS = e.eRaw) ∧
    e.sReq = (if e.mode = .timed then rnd i.seg.rounding e.d 2 else 0) ∧ e.gReq = rnd i.seg.rounding e.g 2) ∧
  (∀ (i : ComputeInput) (m : Metered) (factor n : Nat), n < 16 →
    let e := computeExposure i
    ((computeFlags i m factor).getLsbD n = true ↔
      (n = 0 ∧ e.dCap + e.gMaxEff < e.eS) ∨ (n = 1 ∧ e.eS < e.dLo ∧ ¬e.dCap + e.gMaxEff < e.eS) ∨
      (n = 2 ∧ i.seg.mode = .ramp ∧
        ∃ p : Int, i.ePrev = some p ∧ (e.eRaw - p < -(i.seg.slew : Int) ∨ (i.seg.slew : Int) < e.eRaw - p)) ∨
      (n = 3 ∧ m.dark = true) ∨ (n = 4 ∧ m.late = true) ∨ (n = 9 ∧ 1 < factor))) ∧
  (∀ i : ComputeInput, SegmentLaw i.seg → i.overhead + 1024 ≤ i.iEff →
    let e := computeExposure i
    e.dLo ≤ e.d ∧ e.d ≤ e.dCap ∧ 0 ≤ e.g ∧ e.g ≤ e.gMaxEff ∧ e.eT = e.d + e.g ∧ -208 ≤ e.eT ∧ e.eT ≤ 288 ∧
    e.avail = i.iEff - i.overhead ∧ 1 ≤ e.ticks ∧ e.ticks ≤ e.avail ∧
    2 ^ (e.dCap + 160).toNat ≤ e.avail ^ 16 ∧
    (e.mode = .bulb ↔ i.bulbThreshold ≤ e.d ∨ i.link = false) ∧
    (i.link = false → e.g = 0 ∧ e.gReq = 0 ∧ e.eT = e.d) ∧
    (∀ p : Int, i.seg.mode = .ramp → i.ePrev = some p →
      (p - i.seg.slew ≤ e.eT ∧ e.eT ≤ p + i.seg.slew) ∨ e.eT = e.dLo ∨ e.eT = e.dCap + e.gMaxEff))

/-! ## What every step keeps -/

/-- R168, R176, R179, R181, R182: from a log within its size whose counters satisfy held + released + overwritten = written
modulo 2^32, every step leads to such a log. -/
def Obligations.EveryStepKeepsTheLogLaw : Prop := ∀ s t : State, LogLaw s → step s = .next t → LogLaw t

/-- R151 to R153, R158 to R160, R162: every step keeps the account within the capacity and the remainder below one mA·s, the
charge level and the budget level as the account and the voltage state give them, and the heater eligible exactly under its
conditions, with HEAT on only while it is. -/
def Obligations.EveryStepKeepsThePowerLaws : Prop := ∀ s t : State, PowerInv s → step s = .next t → PowerInv t

/-- R196, R147, R106, R3, R4, R9, R10: every step keeps every parameter within its range, and every stored segment, its gate,
termination and jump arguments by their kinds among it. R189, R190, R199: it keeps the held slot empty while the executing slot is,
and ATN as the set and the mask give it. -/
def Obligations.EveryStepKeepsTheStoredLaws : Prop := ∀ s t : State, StoredInv s → step s = .next t → StoredInv t

/-- R102, R105: every step keeps the laws of the camera lines. SHUT is active only in EXPOSING and with CAMPWR on, FOCUS only from
SETTING to EXPOSING; CAMPWR is off in OFF and COOLDOWN. CAMPWR is off in HOLD, and in IDLE and ENDED except while a test
shot is in flight. R17, R18: a commit is pending only with a run frame in hand. -/
def Obligations.EveryStepKeepsTheCameraLaws : Prop :=
  (∀ s t : State, CameraInv s → step s = .next t → CameraInv t) ∧ ∀ s : State, CameraInv s → ParkedLaw s

/-- The state after power-on reset satisfies all the laws that every step keeps. -/
def Obligations.ResetSatisfiesTheLaws : Prop :=
  LogLaw State.reset ∧ PowerInv State.reset ∧ StoredInv State.reset ∧ CameraInv State.reset

end Slice0Obligations
end

