-- ==== Sys2Proof/Laws/State.lean ====
section
/-! SUPPORT. One lemma per field of the state per block update: an update changes its block and no other. -/

namespace Sys2Proof.Machine

@[simp] theorem State.modTb_tb (s : State) (f : Timebase → Timebase) : (s.modTb f).tb = f s.tb := rfl
@[simp] theorem State.modTb_prog (s : State) (f : Timebase → Timebase) : (s.modTb f).prog = s.prog := rfl
@[simp] theorem State.modTb_seq (s : State) (f : Timebase → Timebase) : (s.modTb f).seq = s.seq := rfl
@[simp] theorem State.modTb_meter (s : State) (f : Timebase → Timebase) : (s.modTb f).meter = s.meter := rfl
@[simp] theorem State.modTb_ramp (s : State) (f : Timebase → Timebase) : (s.modTb f).ramp = s.ramp := rfl
@[simp] theorem State.modTb_cam (s : State) (f : Timebase → Timebase) : (s.modTb f).cam = s.cam := rfl
@[simp] theorem State.modTb_pow (s : State) (f : Timebase → Timebase) : (s.modTb f).pow = s.pow := rfl
@[simp] theorem State.modTb_log (s : State) (f : Timebase → Timebase) : (s.modTb f).log = s.log := rfl
@[simp] theorem State.modTb_line (s : State) (f : Timebase → Timebase) : (s.modTb f).line = s.line := rfl
@[simp] theorem State.modTb_params (s : State) (f : Timebase → Timebase) : (s.modTb f).params = s.params := rfl
@[simp] theorem State.modTb_choices (s : State) (f : Timebase → Timebase) : (s.modTb f).choices = s.choices := rfl
@[simp] theorem State.modTb_pending (s : State) (f : Timebase → Timebase) : (s.modTb f).pending = s.pending := rfl

@[simp] theorem State.modProg_tb (s : State) (f : ProgramStore → ProgramStore) : (s.modProg f).tb = s.tb := rfl
@[simp] theorem State.modProg_prog (s : State) (f : ProgramStore → ProgramStore) : (s.modProg f).prog = f s.prog := rfl
@[simp] theorem State.modProg_seq (s : State) (f : ProgramStore → ProgramStore) : (s.modProg f).seq = s.seq := rfl
@[simp] theorem State.modProg_meter (s : State) (f : ProgramStore → ProgramStore) : (s.modProg f).meter = s.meter := rfl
@[simp] theorem State.modProg_ramp (s : State) (f : ProgramStore → ProgramStore) : (s.modProg f).ramp = s.ramp := rfl
@[simp] theorem State.modProg_cam (s : State) (f : ProgramStore → ProgramStore) : (s.modProg f).cam = s.cam := rfl
@[simp] theorem State.modProg_pow (s : State) (f : ProgramStore → ProgramStore) : (s.modProg f).pow = s.pow := rfl
@[simp] theorem State.modProg_log (s : State) (f : ProgramStore → ProgramStore) : (s.modProg f).log = s.log := rfl
@[simp] theorem State.modProg_line (s : State) (f : ProgramStore → ProgramStore) : (s.modProg f).line = s.line := rfl
@[simp] theorem State.modProg_params (s : State) (f : ProgramStore → ProgramStore) : (s.modProg f).params = s.params := rfl
@[simp] theorem State.modProg_choices (s : State) (f : ProgramStore → ProgramStore) : (s.modProg f).choices = s.choices := rfl
@[simp] theorem State.modProg_pending (s : State) (f : ProgramStore → ProgramStore) : (s.modProg f).pending = s.pending := rfl

@[simp] theorem State.modSeq_tb (s : State) (f : Sequencer → Sequencer) : (s.modSeq f).tb = s.tb := rfl
@[simp] theorem State.modSeq_prog (s : State) (f : Sequencer → Sequencer) : (s.modSeq f).prog = s.prog := rfl
@[simp] theorem State.modSeq_seq (s : State) (f : Sequencer → Sequencer) : (s.modSeq f).seq = f s.seq := rfl
@[simp] theorem State.modSeq_meter (s : State) (f : Sequencer → Sequencer) : (s.modSeq f).meter = s.meter := rfl
@[simp] theorem State.modSeq_ramp (s : State) (f : Sequencer → Sequencer) : (s.modSeq f).ramp = s.ramp := rfl
@[simp] theorem State.modSeq_cam (s : State) (f : Sequencer → Sequencer) : (s.modSeq f).cam = s.cam := rfl
@[simp] theorem State.modSeq_pow (s : State) (f : Sequencer → Sequencer) : (s.modSeq f).pow = s.pow := rfl
@[simp] theorem State.modSeq_log (s : State) (f : Sequencer → Sequencer) : (s.modSeq f).log = s.log := rfl
@[simp] theorem State.modSeq_line (s : State) (f : Sequencer → Sequencer) : (s.modSeq f).line = s.line := rfl
@[simp] theorem State.modSeq_params (s : State) (f : Sequencer → Sequencer) : (s.modSeq f).params = s.params := rfl
@[simp] theorem State.modSeq_choices (s : State) (f : Sequencer → Sequencer) : (s.modSeq f).choices = s.choices := rfl
@[simp] theorem State.modSeq_pending (s : State) (f : Sequencer → Sequencer) : (s.modSeq f).pending = s.pending := rfl

@[simp] theorem State.modMeter_tb (s : State) (f : Meter → Meter) : (s.modMeter f).tb = s.tb := rfl
@[simp] theorem State.modMeter_prog (s : State) (f : Meter → Meter) : (s.modMeter f).prog = s.prog := rfl
@[simp] theorem State.modMeter_seq (s : State) (f : Meter → Meter) : (s.modMeter f).seq = s.seq := rfl
@[simp] theorem State.modMeter_meter (s : State) (f : Meter → Meter) : (s.modMeter f).meter = f s.meter := rfl
@[simp] theorem State.modMeter_ramp (s : State) (f : Meter → Meter) : (s.modMeter f).ramp = s.ramp := rfl
@[simp] theorem State.modMeter_cam (s : State) (f : Meter → Meter) : (s.modMeter f).cam = s.cam := rfl
@[simp] theorem State.modMeter_pow (s : State) (f : Meter → Meter) : (s.modMeter f).pow = s.pow := rfl
@[simp] theorem State.modMeter_log (s : State) (f : Meter → Meter) : (s.modMeter f).log = s.log := rfl
@[simp] theorem State.modMeter_line (s : State) (f : Meter → Meter) : (s.modMeter f).line = s.line := rfl
@[simp] theorem State.modMeter_params (s : State) (f : Meter → Meter) : (s.modMeter f).params = s.params := rfl
@[simp] theorem State.modMeter_choices (s : State) (f : Meter → Meter) : (s.modMeter f).choices = s.choices := rfl
@[simp] theorem State.modMeter_pending (s : State) (f : Meter → Meter) : (s.modMeter f).pending = s.pending := rfl

@[simp] theorem State.modRamp_tb (s : State) (f : Ramp → Ramp) : (s.modRamp f).tb = s.tb := rfl
@[simp] theorem State.modRamp_prog (s : State) (f : Ramp → Ramp) : (s.modRamp f).prog = s.prog := rfl
@[simp] theorem State.modRamp_seq (s : State) (f : Ramp → Ramp) : (s.modRamp f).seq = s.seq := rfl
@[simp] theorem State.modRamp_meter (s : State) (f : Ramp → Ramp) : (s.modRamp f).meter = s.meter := rfl
@[simp] theorem State.modRamp_ramp (s : State) (f : Ramp → Ramp) : (s.modRamp f).ramp = f s.ramp := rfl
@[simp] theorem State.modRamp_cam (s : State) (f : Ramp → Ramp) : (s.modRamp f).cam = s.cam := rfl
@[simp] theorem State.modRamp_pow (s : State) (f : Ramp → Ramp) : (s.modRamp f).pow = s.pow := rfl
@[simp] theorem State.modRamp_log (s : State) (f : Ramp → Ramp) : (s.modRamp f).log = s.log := rfl
@[simp] theorem State.modRamp_line (s : State) (f : Ramp → Ramp) : (s.modRamp f).line = s.line := rfl
@[simp] theorem State.modRamp_params (s : State) (f : Ramp → Ramp) : (s.modRamp f).params = s.params := rfl
@[simp] theorem State.modRamp_choices (s : State) (f : Ramp → Ramp) : (s.modRamp f).choices = s.choices := rfl
@[simp] theorem State.modRamp_pending (s : State) (f : Ramp → Ramp) : (s.modRamp f).pending = s.pending := rfl

@[simp] theorem State.modCam_tb (s : State) (f : Camera → Camera) : (s.modCam f).tb = s.tb := rfl
@[simp] theorem State.modCam_prog (s : State) (f : Camera → Camera) : (s.modCam f).prog = s.prog := rfl
@[simp] theorem State.modCam_seq (s : State) (f : Camera → Camera) : (s.modCam f).seq = s.seq := rfl
@[simp] theorem State.modCam_meter (s : State) (f : Camera → Camera) : (s.modCam f).meter = s.meter := rfl
@[simp] theorem State.modCam_ramp (s : State) (f : Camera → Camera) : (s.modCam f).ramp = s.ramp := rfl
@[simp] theorem State.modCam_cam (s : State) (f : Camera → Camera) : (s.modCam f).cam = f s.cam := rfl
@[simp] theorem State.modCam_pow (s : State) (f : Camera → Camera) : (s.modCam f).pow = s.pow := rfl
@[simp] theorem State.modCam_log (s : State) (f : Camera → Camera) : (s.modCam f).log = s.log := rfl
@[simp] theorem State.modCam_line (s : State) (f : Camera → Camera) : (s.modCam f).line = s.line := rfl
@[simp] theorem State.modCam_params (s : State) (f : Camera → Camera) : (s.modCam f).params = s.params := rfl
@[simp] theorem State.modCam_choices (s : State) (f : Camera → Camera) : (s.modCam f).choices = s.choices := rfl
@[simp] theorem State.modCam_pending (s : State) (f : Camera → Camera) : (s.modCam f).pending = s.pending := rfl

@[simp] theorem State.modPow_tb (s : State) (f : Power → Power) : (s.modPow f).tb = s.tb := rfl
@[simp] theorem State.modPow_prog (s : State) (f : Power → Power) : (s.modPow f).prog = s.prog := rfl
@[simp] theorem State.modPow_seq (s : State) (f : Power → Power) : (s.modPow f).seq = s.seq := rfl
@[simp] theorem State.modPow_meter (s : State) (f : Power → Power) : (s.modPow f).meter = s.meter := rfl
@[simp] theorem State.modPow_ramp (s : State) (f : Power → Power) : (s.modPow f).ramp = s.ramp := rfl
@[simp] theorem State.modPow_cam (s : State) (f : Power → Power) : (s.modPow f).cam = s.cam := rfl
@[simp] theorem State.modPow_pow (s : State) (f : Power → Power) : (s.modPow f).pow = f s.pow := rfl
@[simp] theorem State.modPow_log (s : State) (f : Power → Power) : (s.modPow f).log = s.log := rfl
@[simp] theorem State.modPow_line (s : State) (f : Power → Power) : (s.modPow f).line = s.line := rfl
@[simp] theorem State.modPow_params (s : State) (f : Power → Power) : (s.modPow f).params = s.params := rfl
@[simp] theorem State.modPow_choices (s : State) (f : Power → Power) : (s.modPow f).choices = s.choices := rfl
@[simp] theorem State.modPow_pending (s : State) (f : Power → Power) : (s.modPow f).pending = s.pending := rfl

@[simp] theorem State.modLog_tb (s : State) (f : FrameLog → FrameLog) : (s.modLog f).tb = s.tb := rfl
@[simp] theorem State.modLog_prog (s : State) (f : FrameLog → FrameLog) : (s.modLog f).prog = s.prog := rfl
@[simp] theorem State.modLog_seq (s : State) (f : FrameLog → FrameLog) : (s.modLog f).seq = s.seq := rfl
@[simp] theorem State.modLog_meter (s : State) (f : FrameLog → FrameLog) : (s.modLog f).meter = s.meter := rfl
@[simp] theorem State.modLog_ramp (s : State) (f : FrameLog → FrameLog) : (s.modLog f).ramp = s.ramp := rfl
@[simp] theorem State.modLog_cam (s : State) (f : FrameLog → FrameLog) : (s.modLog f).cam = s.cam := rfl
@[simp] theorem State.modLog_pow (s : State) (f : FrameLog → FrameLog) : (s.modLog f).pow = s.pow := rfl
@[simp] theorem State.modLog_log (s : State) (f : FrameLog → FrameLog) : (s.modLog f).log = f s.log := rfl
@[simp] theorem State.modLog_line (s : State) (f : FrameLog → FrameLog) : (s.modLog f).line = s.line := rfl
@[simp] theorem State.modLog_params (s : State) (f : FrameLog → FrameLog) : (s.modLog f).params = s.params := rfl
@[simp] theorem State.modLog_choices (s : State) (f : FrameLog → FrameLog) : (s.modLog f).choices = s.choices := rfl
@[simp] theorem State.modLog_pending (s : State) (f : FrameLog → FrameLog) : (s.modLog f).pending = s.pending := rfl

@[simp] theorem State.modLine_tb (s : State) (f : LinePort → LinePort) : (s.modLine f).tb = s.tb := rfl
@[simp] theorem State.modLine_prog (s : State) (f : LinePort → LinePort) : (s.modLine f).prog = s.prog := rfl
@[simp] theorem State.modLine_seq (s : State) (f : LinePort → LinePort) : (s.modLine f).seq = s.seq := rfl
@[simp] theorem State.modLine_meter (s : State) (f : LinePort → LinePort) : (s.modLine f).meter = s.meter := rfl
@[simp] theorem State.modLine_ramp (s : State) (f : LinePort → LinePort) : (s.modLine f).ramp = s.ramp := rfl
@[simp] theorem State.modLine_cam (s : State) (f : LinePort → LinePort) : (s.modLine f).cam = s.cam := rfl
@[simp] theorem State.modLine_pow (s : State) (f : LinePort → LinePort) : (s.modLine f).pow = s.pow := rfl
@[simp] theorem State.modLine_log (s : State) (f : LinePort → LinePort) : (s.modLine f).log = s.log := rfl
@[simp] theorem State.modLine_line (s : State) (f : LinePort → LinePort) : (s.modLine f).line = f s.line := rfl
@[simp] theorem State.modLine_params (s : State) (f : LinePort → LinePort) : (s.modLine f).params = s.params := rfl
@[simp] theorem State.modLine_choices (s : State) (f : LinePort → LinePort) : (s.modLine f).choices = s.choices := rfl
@[simp] theorem State.modLine_pending (s : State) (f : LinePort → LinePort) : (s.modLine f).pending = s.pending := rfl

@[simp] theorem State.modParams_tb (s : State) (f : Params → Params) : (s.modParams f).tb = s.tb := rfl
@[simp] theorem State.modParams_prog (s : State) (f : Params → Params) : (s.modParams f).prog = s.prog := rfl
@[simp] theorem State.modParams_seq (s : State) (f : Params → Params) : (s.modParams f).seq = s.seq := rfl
@[simp] theorem State.modParams_meter (s : State) (f : Params → Params) : (s.modParams f).meter = s.meter := rfl
@[simp] theorem State.modParams_ramp (s : State) (f : Params → Params) : (s.modParams f).ramp = s.ramp := rfl
@[simp] theorem State.modParams_cam (s : State) (f : Params → Params) : (s.modParams f).cam = s.cam := rfl
@[simp] theorem State.modParams_pow (s : State) (f : Params → Params) : (s.modParams f).pow = s.pow := rfl
@[simp] theorem State.modParams_log (s : State) (f : Params → Params) : (s.modParams f).log = s.log := rfl
@[simp] theorem State.modParams_line (s : State) (f : Params → Params) : (s.modParams f).line = s.line := rfl
@[simp] theorem State.modParams_params (s : State) (f : Params → Params) : (s.modParams f).params = f s.params := rfl
@[simp] theorem State.modParams_choices (s : State) (f : Params → Params) : (s.modParams f).choices = s.choices := rfl
@[simp] theorem State.modParams_pending (s : State) (f : Params → Params) : (s.modParams f).pending = s.pending := rfl

end Sys2Proof.Machine
end

