-- ==== Sys2Proof/Laws/Ops.lean ====
section
/-! SUPPORT. What the shared operations can change, said once each: alerts, meter requests, accruals and levels, camera
power, the frame log, the walk, hold entry and the end of an event. -/

namespace Sys2Proof.Machine

/-- `t` differs from `s` at most in the sequencer, the camera, the power monitor, the meter and the line port. -/
def SameStores (s t : State) : Prop :=
  t.tb = s.tb ∧ t.prog = s.prog ∧ t.ramp = s.ramp ∧ t.log = s.log ∧ t.params = s.params ∧ t.choices = s.choices ∧
  t.pending = s.pending

theorem SameStores.refl (s : State) : SameStores s s := ⟨rfl, rfl, rfl, rfl, rfl, rfl, rfl⟩

theorem SameStores.trans {s t u : State} (h : SameStores s t) (k : SameStores t u) : SameStores s u := by
  obtain ⟨a, b, c, d, e, f, g⟩ := h
  obtain ⟨a', b', c', d', e', f', g'⟩ := k
  exact ⟨a'.trans a, b'.trans b, c'.trans c, d'.trans d, e'.trans e, f'.trans f, g'.trans g⟩

theorem SameStores.modSeq {s t : State} (h : SameStores s t) (f) : SameStores s (t.modSeq f) := h
theorem SameStores.modCam {s t : State} (h : SameStores s t) (f) : SameStores s (t.modCam f) := h
theorem SameStores.modPow {s t : State} (h : SameStores s t) (f) : SameStores s (t.modPow f) := h
theorem SameStores.modMeter {s t : State} (h : SameStores s t) (f) : SameStores s (t.modMeter f) := h
theorem SameStores.modLine {s t : State} (h : SameStores s t) (f) : SameStores s (t.modLine f) := h

/-! ## Alerts and sticky flags -/

@[simp] theorem raiseAlert_alerts (a : Alert) (s : State) :
    (raiseAlert a s).line = { s.line with alerts := s.line.alerts ||| a.bit } := rfl

theorem raiseAlert_same (a : Alert) (s : State) : SameStores s (raiseAlert a s) := SameStores.refl s

@[simp] theorem formAtn_line (s : State) : (formAtn s).line = { s.line with atn := atnOf s.line } := rfl

theorem formAtn_same (s : State) : SameStores s (formAtn s) := SameStores.refl s

theorem formAtn_of_formed {s : State} (h : s.line.atn = atnOf s.line) : formAtn s = s := by
  have : { s.line with atn := atnOf s.line } = s.line := by rw [← h]
  simp [formAtn, State.modLine, this]

/-! ## Meter requests -/

theorem startJob_same (c : MeterClass) (job : JobRequest) (s : State) : SameStores s (startJob c job s) :=
  SameStores.refl s

/-- R49: a request reaches the meter alone. -/
theorem meterRequest_frame (c : MeterClass) (o : Owner) (r : Rounding) (s : State) :
    ∃ m, meterRequest c o r s = { s with meter := m } := by
  exact ⟨_, rfl⟩

theorem meterRequest_same (c : MeterClass) (o : Owner) (r : Rounding) (s : State) :
    SameStores s (meterRequest c o r s) := by
  obtain ⟨m, h⟩ := meterRequest_frame c o r s
  rw [h]
  exact SameStores.refl s

/-- R49, R50: a WAITING job that starts touches the meter alone. -/
theorem startWaiting_frame (c : MeterClass) (s : State) : ∃ m, startWaiting c s = { s with meter := m } := by
  unfold startWaiting
  split
  · exact ⟨_, rfl⟩
  · exact ⟨s.meter, rfl⟩
  · exact ⟨s.meter, rfl⟩

/-- R49, R50: serving the converter touches the meter, and the counter of choices when the requests of an event meet an idle
converter. -/
theorem serveMeter_frame (s0 s : State) : ∃ m n, serveMeter s0 s = { s with meter := m, choices := n } := by
  unfold serveMeter
  split
  · exact ⟨s.meter, s.choices, rfl⟩
  · split
    · exact ⟨s.meter, s.choices, rfl⟩
    · rename_i c _
      obtain ⟨m, h⟩ := startWaiting_frame c s
      exact ⟨m, s.choices, h⟩
    · rename_i c d rest _
      split
      · obtain ⟨m, h⟩ := startWaiting_frame c s
        exact ⟨m, s.choices, h⟩
      · obtain ⟨m, h⟩ := startWaiting_frame
          ((c :: d :: rest).getD (Config.requestChoice s.choices % (rest.length + 2)) c)
          { s with choices := s.choices + 1 }
        exact ⟨m, s.choices + 1, h⟩

/-- With a job running, or none WAITING, there is nothing to start. -/
theorem serveMeter_of_served {s0 s : State} (h : runningClass s.meter ≠ none ∨ waitingClasses s.meter = []) :
    serveMeter s0 s = s := by
  unfold serveMeter
  split
  · rfl
  · rename_i r
    rcases h with h | h
    · exact absurd (Option.isSome_iff_ne_none.mpr h) r
    · rw [h]

/-! ## Levels, accruals, camera power -/

/-- An accrual changes the power monitor alone (R153). -/
theorem accrue_frame (s : State) : ∃ p, accrue s = { s with pow := p } := ⟨_, rfl⟩

/-- R153: a second accrual in one event charges nothing. -/
theorem accrue_again_account (s : State) (h : s.pow.lastAccrual = now s) (r : s.pow.remainder < 1024000) :
    (accrue s).pow.account = s.pow.account ∧ (accrue s).pow.remainder = s.pow.remainder := by
  unfold accrue formDraw takeCharge
  have e : now s - now s = 0 := Nat.sub_self _
  simp only [State.modPow_pow]
  rw [h, e]
  simp [Nat.mod_eq_of_lt r, Nat.div_eq_of_lt r]

theorem reanchor_frame (s : State) : ∃ q, reanchor s = { s with seq := q } := by
  unfold reanchor
  split
  · exact ⟨s.seq, rfl⟩
  · exact ⟨_, rfl⟩

theorem stretchChanged_frame (s : State) : ∃ q, stretchChanged s = { s with seq := q } := by
  unfold stretchChanged
  split
  · split
    · exact ⟨_, rfl⟩
    · exact reanchor_frame s
  · exact ⟨s.seq, rfl⟩

theorem keepOnOff_frame (s : State) : ∃ c p, keepOnOff s = { s with cam := c, pow := p } := by
  unfold keepOnOff
  split
  · exact ⟨_, _, rfl⟩
  · exact ⟨s.cam, s.pow, rfl⟩

/-- Forming the levels reaches the sequencer's grid, the camera's power and the power monitor alone (R158 to R160). -/
theorem formLevels_frame (s : State) : ∃ q c p, formLevels s = { s with seq := q, cam := c, pow := p } := by
  unfold formLevels
  simp only
  split
  · obtain ⟨c, p, h⟩ := keepOnOff_frame (s.modPow fun p =>
      { p with
        chargeLevel := nextChargeLevel s.pow.chargeLevel (perMille s)
        budgetLevel := budgetOf p.voltage (nextChargeLevel s.pow.chargeLevel (perMille s)) })
    exact ⟨s.seq, c, p, h⟩
  · obtain ⟨q, h⟩ := stretchChanged_frame (s.modPow fun p =>
      { p with
        chargeLevel := nextChargeLevel s.pow.chargeLevel (perMille s)
        budgetLevel := budgetOf p.voltage (nextChargeLevel s.pow.chargeLevel (perMille s)) })
    rw [h]
    obtain ⟨c, p, k⟩ := keepOnOff_frame { (s.modPow fun p =>
      { p with
        chargeLevel := nextChargeLevel s.pow.chargeLevel (perMille s)
        budgetLevel := budgetOf p.voltage (nextChargeLevel s.pow.chargeLevel (perMille s)) }) with seq := q }
    exact ⟨q, c, p, k⟩

theorem settleLevels_frame (s : State) : ∃ q c p, settleLevels s = { s with seq := q, cam := c, pow := p } := by
  obtain ⟨q, c, p, h⟩ := formLevels_frame s
  obtain ⟨q', c', p', h'⟩ := formLevels_frame (formLevels s)
  refine ⟨q', c', p', ?_⟩
  rw [settleLevels, h', h]

theorem accrual_frame (s : State) : ∃ q c p, accrual s = { s with seq := q, cam := c, pow := p } := by
  obtain ⟨q, c, p, h⟩ := settleLevels_frame (accrue s)
  exact ⟨q, c, p, h⟩

theorem setCamPower_frame (on : Bool) (s : State) :
    ∃ q c p, setCamPower on s = { s with seq := q, cam := c, pow := p } := by
  unfold setCamPower
  split
  · exact ⟨s.seq, s.cam, s.pow, rfl⟩
  · obtain ⟨q, c, p, h⟩ := accrual_frame (s.modCam fun c => { c with power := on })
    exact ⟨q, c, p, h⟩

theorem setHeat_frame (on : Bool) (s : State) : ∃ q c p, setHeat on s = { s with seq := q, cam := c, pow := p } := by
  unfold setHeat
  split
  · exact ⟨s.seq, s.cam, s.pow, rfl⟩
  · obtain ⟨q, c, p, h⟩ := accrual_frame (s.modPow fun p => { p with heat := on })
    exact ⟨q, c, p, h⟩

theorem setCore_frame (k : CoreState) (s : State) : ∃ q c p, setCore k s = { s with seq := q, cam := c, pow := p } := by
  unfold setCore
  split
  · exact ⟨s.seq, s.cam, s.pow, rfl⟩
  · obtain ⟨q, c, p, h⟩ := accrual_frame (s.modPow fun p => { p with core := k })
    exact ⟨q, c, p, h⟩

theorem settleLevels_same (s : State) : SameStores s (settleLevels s) := by
  obtain ⟨q, c, p, h⟩ := settleLevels_frame s
  rw [h]
  exact SameStores.refl s

/-! ## The frame log -/

/-- R176, R177: a write changes the log and the alert set alone. -/
theorem logWrite_frame (r : LogRecord) (s : State) :
    ∃ a, logWrite r s =
      { s with log := storeRecord s.params.logSize r s.log, line := { s.line with alerts := a } } := by
  unfold logWrite
  simp only
  split <;> split <;> exact ⟨_, rfl⟩

/-- R176: what a write leaves held. -/
theorem storeRecord_length (size : Nat) (r : LogRecord) (l : FrameLog) (h : l.records.length ≤ size) (z : 0 < size) :
    (storeRecord size r l).records.length = min (l.records.length + 1) size := by
  unfold storeRecord
  split
  · simp
    omega
  · simp
    omega

/-! ## The end of an event -/

theorem enterEnded_frame (s : State) : ∃ q, enterEnded s = { s with seq := q } := ⟨_, rfl⟩

theorem holdCheck_frame (s : State) :
    ∃ q a, holdCheck s = { s with seq := q, line := { s.line with alerts := a } } := by
  unfold holdCheck
  split
  · split
    · exact ⟨_, s.line.alerts, rfl⟩
    · exact ⟨_, _, rfl⟩
  · exact ⟨s.seq, s.line.alerts, rfl⟩

theorem heaterForm_frame (s : State) :
    ∃ q c p m, heaterForm s = { s with seq := q, cam := c, pow := p, meter := m } := by
  unfold heaterForm
  split
  · exact ⟨s.seq, s.cam, s.pow, s.meter, rfl⟩
  · split
    · unfold heaterGained
      obtain ⟨m, h⟩ := meterRequest_frame .temperature .power .down (s.modPow fun p =>
        { p with
          eligible := true, duty := 0, pendingDuty := 0
          temperatureAt := some (now s + 16384), heatPeriodAt := some (periodFrom (now s)), heatOffAt := none })
      rw [h]
      exact ⟨_, _, _, _, rfl⟩
    · unfold heaterLost
      obtain ⟨q, c, p, h⟩ := setHeat_frame false (s.modPow fun p =>
        { p with
          eligible := false, duty := 0, pendingDuty := 0, temperatureAt := none, heatPeriodAt := none
          heatOffAt := none })
      rw [h]
      exact ⟨_, _, _, _, rfl⟩

theorem heaterDrop_frame (s : State) : ∃ q c p, heaterDrop s = { s with seq := q, cam := c, pow := p } := by
  unfold heaterDrop heaterLost
  split
  · obtain ⟨q, c, p, h⟩ := setHeat_frame false (s.modPow fun p =>
      { p with
        eligible := false, duty := 0, pendingDuty := 0, temperatureAt := none, heatPeriodAt := none
        heatOffAt := none })
    exact ⟨q, c, p, h⟩
  · exact ⟨s.seq, s.cam, s.pow, rfl⟩

theorem keepOnTest_frame (s : State) : ∃ q c p, keepOnTest s = { s with seq := q, cam := c, pow := p } := by
  unfold keepOnTest
  split
  · obtain ⟨c, p, h⟩ := keepOnOff_frame s
    obtain ⟨q', c', p', h'⟩ := settleLevels_frame (keepOnOff s)
    exact ⟨q', c', p', by rw [h', h]⟩
  · exact ⟨s.seq, s.cam, s.pow, rfl⟩

theorem coreForm_frame (s0 s : State) : ∃ q c p, coreForm s0 s = { s with seq := q, cam := c, pow := p } := by
  unfold coreForm
  split
  · exact ⟨s.seq, s.cam, s.pow, rfl⟩
  · exact setCore_frame _ s

theorem recoveryForm_frame (s : State) : ∃ p, recoveryForm s = { s with pow := p } := by
  unfold recoveryForm
  split
  · exact ⟨s.pow, rfl⟩
  · exact ⟨_, rfl⟩

/-- `t` differs from `s` at most in the sequencer, the camera, the power monitor, the meter, the alert set, ATN and the counter
of choices. -/
def FormedFrom (s t : State) : Prop :=
  ∃ q c p m a b n, t =
    { s with seq := q, cam := c, pow := p, meter := m, line := { s.line with alerts := a, atn := b }, choices := n }

theorem FormedFrom.trans {s t u : State} (h : FormedFrom s t) (k : FormedFrom t u) : FormedFrom s u := by
  obtain ⟨q, c, p, m, a, b, n, rfl⟩ := h
  obtain ⟨q', c', p', m', a', b', n', rfl⟩ := k
  exact ⟨q', c', p', m', a', b', n', rfl⟩

theorem keepOnTest_formed (s : State) : FormedFrom s (keepOnTest s) := by
  obtain ⟨q, c, p, h⟩ := keepOnTest_frame s
  exact ⟨q, c, p, s.meter, s.line.alerts, s.line.atn, s.choices, h⟩

theorem holdCheck_formed (s : State) : FormedFrom s (holdCheck s) := by
  obtain ⟨q, a, h⟩ := holdCheck_frame s
  exact ⟨q, s.cam, s.pow, s.meter, a, s.line.atn, s.choices, h⟩

theorem heaterForm_formed (s : State) : FormedFrom s (heaterForm s) := by
  obtain ⟨q, c, p, m, h⟩ := heaterForm_frame s
  exact ⟨q, c, p, m, s.line.alerts, s.line.atn, s.choices, h⟩

theorem serveMeter_formed (s0 s : State) : FormedFrom s (serveMeter s0 s) := by
  obtain ⟨m, n, h⟩ := serveMeter_frame s0 s
  exact ⟨s.seq, s.cam, s.pow, m, s.line.alerts, s.line.atn, n, h⟩

theorem coreForm_formed (s0 s : State) : FormedFrom s (coreForm s0 s) := by
  obtain ⟨q, c, p, h⟩ := coreForm_frame s0 s
  exact ⟨q, c, p, s.meter, s.line.alerts, s.line.atn, s.choices, h⟩

theorem heaterDrop_formed (s : State) : FormedFrom s (heaterDrop s) := by
  obtain ⟨q, c, p, h⟩ := heaterDrop_frame s
  exact ⟨q, c, p, s.meter, s.line.alerts, s.line.atn, s.choices, h⟩

theorem recoveryForm_formed (s : State) : FormedFrom s (recoveryForm s) := by
  obtain ⟨p, h⟩ := recoveryForm_frame s
  exact ⟨s.seq, s.cam, p, s.meter, s.line.alerts, s.line.atn, s.choices, h⟩

theorem formAtn_formed (s : State) : FormedFrom s (formAtn s) :=
  ⟨s.seq, s.cam, s.pow, s.meter, s.line.alerts, atnOf s.line, s.choices, rfl⟩

/-- The end of an event forms the sequencer, the camera's power, the power monitor, the heater's requests, the converter, the
alert set's HOLD_ENTERED and ATN; it leaves every other block as the event left it. -/
theorem endEvent_formed (s0 s : State) : FormedFrom s (endEvent s0 s) := by
  unfold endEvent
  have h1 := (keepOnTest_formed s).trans (holdCheck_formed (keepOnTest s))
  generalize holdCheck (keepOnTest s) = s1 at h1 ⊢
  have h2 := h1.trans (heaterForm_formed s1)
  generalize heaterForm s1 = s2 at h2 ⊢
  have h3 := h2.trans (serveMeter_formed s0 s2)
  generalize serveMeter s0 s2 = s3 at h3 ⊢
  have h4 := h3.trans (coreForm_formed s0 s3)
  generalize coreForm s0 s3 = s4 at h4 ⊢
  have h5 := h4.trans (heaterDrop_formed s4)
  generalize heaterDrop s4 = s5 at h5 ⊢
  exact (h5.trans (recoveryForm_formed s5)).trans (formAtn_formed _)

/-- The end of an event leaves both clocks, the program store, the ramp engine, the log, the parameters and the queue. -/
theorem endEvent_same (s0 s : State) :
    (endEvent s0 s).tb = s.tb ∧ (endEvent s0 s).prog = s.prog ∧ (endEvent s0 s).ramp = s.ramp ∧
      (endEvent s0 s).log = s.log ∧ (endEvent s0 s).params = s.params ∧ (endEvent s0 s).pending = s.pending := by
  obtain ⟨q, c, p, m, a, b, n, h⟩ := endEvent_formed s0 s
  rw [h]
  exact ⟨rfl, rfl, rfl, rfl, rfl, rfl⟩

/-- Every event ends with ATN formed (R199). -/
theorem endEvent_atn (s0 s : State) : (endEvent s0 s).line.atn = atnOf (endEvent s0 s).line := by
  unfold endEvent
  exact rfl

end Sys2Proof.Machine
end

