-- ==== Sys2Proof/Laws/Settled.lean ====
section
/-! SUPPORT. When nothing is left to form, the end of an event forms ATN and nothing else. -/

namespace Sys2Proof.Machine

/-- The end of an event on a state that is settled but for ATN, with the conditions of the core state as they were, or the
core state as they give it. -/
theorem endEvent_of_formed {s0 s : State}
    (k : ¬(s.cam.phase = .idleOn ∧ keepOnHolds s = false)) (q : s.seq.state ≠ .holding)
    (h : heaterConditions s = s.pow.eligible)
    (w : runningClass s.meter ≠ none ∨ waitingClasses s.meter = [])
    (r : s.pow.recovery = none ∨ (s.seq.state = .hold ∧ (s.seq.hold.map fun h => h.cause) = some .power))
    (c : coreConditions s0 = coreConditions s ∨ s.pow.core = coreOf s) : endEvent s0 s = formAtn s := by
  have e1 : keepOnTest s = s := by rw [keepOnTest, if_neg k]
  have e2 : holdCheck s = s := by rw [holdCheck, if_neg (fun x => q x.1)]
  have e3 : heaterForm s = s := by rw [heaterForm, if_pos h]
  have e3' : heaterDrop s = s := by rw [heaterDrop, h]; cases s.pow.eligible <;> rfl
  have e4 : coreForm s0 s = s := by
    unfold coreForm
    split
    · rfl
    · rcases c with c | c
      · contradiction
      · rw [setCore, if_pos c]
  have e5 : recoveryForm s = s := by
    unfold recoveryForm
    split
    · rfl
    · rcases r with r | r
      · simp [State.modPow, ← r]
      · contradiction
  rw [endEvent, e1, e2, e3, serveMeter_of_served w, e4, e3', e5]

/-- The same for a settled state: nothing changes. -/
theorem endEvent_of_settled {s0 s : State} (h : Settled s)
    (c : coreConditions s0 = coreConditions s ∨ s.pow.core = coreOf s) : endEvent s0 s = s := by
  obtain ⟨k, q, e, w, r, a⟩ := h
  rw [endEvent_of_formed k q e w r c, formAtn_of_formed a]

end Sys2Proof.Machine
end

