-- ==== Sys2Proof/Laws/Requests.lean ====
section
/-! SUPPORT. What a request row does when its request executes at once: the owner's answer on the state with the request in the
executing slot. -/

namespace Sys2Proof.Machine

/-- Taking a request touches the line port alone, and leaves the mask, the counters, the alert set and the speed there. -/
theorem taken_frame (r : Request) (s : State) :
    ∃ l, taken r s = { s with line := l } ∧ l.mask = s.line.mask ∧ l.alerts = s.line.alerts ∧ l.atn = s.line.atn ∧
      l.speed = s.line.speed ∧ l.executing = some r ∧ l.held = s.line.held ∧ l.reply = s.line.reply ∧
      l.crcErrors = s.line.crcErrors ∧ l.framingErrors = s.line.framingErrors ∧
      l.lengthErrors = s.line.lengthErrors ∧ l.gapErrors = s.line.gapErrors ∧
      l.overrunErrors = s.line.overrunErrors := by
  unfold taken validFrame
  split <;> exact ⟨_, rfl, rfl, rfl, rfl, rfl, rfl, rfl, rfl, rfl, rfl, rfl, rfl, rfl⟩

/-- Right after a request has been taken, the line is listening if it was not dormant. -/
theorem taken_state (r : Request) (s : State) (h : s.line.state ≠ .dormant) :
    (taken r s).line.state = .listening := by
  unfold taken validFrame
  split
  · contradiction
  · assumption
  · rfl

/-- A request that arrives with the executing slot empty is answered by its owner in the same event (R189, R190). -/
theorem receive_of_listening (r : Request) {s : State} (l : Listening s) :
    receive r s =
      match answerOf r (taken r s) with
      | none => meterNow (taken r s)
      | some (s2, status, data) => replied r status data s2 := by
  have e : (validFrame s).line.executing = none := by
    unfold validFrame
    split <;> exact l.2
  unfold receive submit
  rw [e]
  rfl

end Sys2Proof.Machine
end

