-- ==== Sys2Proof/WellFormed.lean ====
section
/-! DEFINITION. Which terms of `Instr` stand for something that can happen on the part's lines. The machine gives every
term a meaning; an ill-formed one finds no occasion (its meaning says which rule turns it away). -/

namespace Sys2Proof

/-- R184: a frame's payload holds at most 64 bytes. R186: a length error is found on a LEN above 64. R186, R187: at a
stop-bit error LRX has been low since the byte's start bit at the earliest. R48: a job's codes are at most the two
conversions of each of eight samples, and at least one. -/
def Instr.wellFormed : Instr → Bool
  | .frameReceived _ payload _ => payload.length ≤ 64
  | .lengthError len => 64 < len.toNat
  | .stopBitError startedAgo lowFor => lowFor ≤ startedAgo
  | .converterJobEnd codes => 1 ≤ codes.length && codes.length ≤ 16
  | .identify | .getStatus _ | .setClock _ _ | .setParam _ _ | .getParam _ | .putSegment _ _
  | .readSegment _ _ | .clearStaged | .commit | .lockProgram | .start _ | .stop | .hold | .resume _
  | .readResumeRecord | .setResumePoint _ _ | .testShot | .meterNow | .setCharge _ | .getPower
  | .readFrames | .releaseFrames _ | .getLogInfo | .readAlerts | .getLinkStats | .setLinkSpeed _
  | .gapError | .lineBreak | .wakeEdge | .listenExpiry | .trialExpiry | .replySent | .powerOnReset
  | .pinReset | .armedStartReached | .preparationStart | .meterLead | .settingLead | .focusLead
  | .settingRecordSent | .replyRecord _ _ _ _ _ | .accessoryByteError | .replyWindowExpiry
  | .dueTime | .shutterHoldExpiry | .syncClosure | .syncWindowExpiry | .readyChange _
  | .dropWatchExpiry | .writeTimeout | .cooldownEnd | .recoveryTimerExpiry | .periodicCompare
  | .temperatureCompare | .heaterPeriodStart | .heaterOffEdge | .sofByte _ | .replyLeadByte
  | .lrxReturnHigh => true

end Sys2Proof
end

