-- ==== Sys2Proof/Tests/Slice0.lean ====
section
/-! SUPPORT. Tests: the smoke tests of WellFormed, the worked examples and tables of the manual (each names its section or rule), and
for every obligation with hypotheses a state and operands that meet them, clause by clause, at the boundary values of their ranges
where they have ranges. -/

namespace Sys2Proof.Tests

-- One theorem at a time: checked together, so many kernel evaluations hold a thread and its stack each.
set_option Elab.async false

open Sys2Proof Sys2Proof.Machine

/-! ## WellFormed smoke tests: each check refuses a term -/

theorem test_wellFormed_refuses_a_long_payload :
    Instr.wellFormed (.frameReceived 0x52 (List.replicate 65 0) 0) = false := by decide
theorem test_wellFormed_takes_a_full_payload :
    Instr.wellFormed (.frameReceived 0x52 (List.replicate 64 0) 0) = true := by simp [Instr.wellFormed]
theorem test_wellFormed_refuses_a_len_that_fits : Instr.wellFormed (.lengthError 64) = false := by decide
theorem test_wellFormed_refuses_a_line_low_before_the_start_bit : Instr.wellFormed (.stopBitError 1 2) = false := by decide
theorem test_wellFormed_refuses_a_job_without_codes : Instr.wellFormed (.converterJobEnd []) = false := by decide
theorem test_wellFormed_refuses_seventeen_codes :
    Instr.wellFormed (.converterJobEnd (List.replicate 17 0)) = false := by decide

/-! ## The line (R184, R206) -/

/-- R184: GET_LOG_INFO is the four bytes 0xC5, 0x00, 0x52, 0xB9. -/
theorem test_crc_of_get_log_info : frameBytes 0x52 [] = [0xC5, 0x00, 0x52, 0xB9] := by decide +kernel

/-- R206: the setting record of frame 730 of section 5.9. -/
theorem test_setting_record_checksum :
    settingRecordBytes { mode := .bulb, shutter := 0, gain := 9 } = [0xA6, 0x01, 0x00, 0x09, 0x50] := by decide

theorem test_no_row_gives_bits : decodeTableWord 8 0x52 = none := by decide

/-! ## Rounding, meter, filter -/

/-- R67's table: 2.5, 2.25, −2.25, −2.5, −2.75, −45.5 in quarters and halves. -/
theorem test_rounding_down :
    [rnd .down 5 2, rnd .down 9 4, rnd .down (-9) 4, rnd .down (-5) 2, rnd .down (-11) 4, rnd .down (-91) 2] =
      [2, 2, -3, -3, -3, -46] := by decide
theorem test_rounding_nearest :
    [rnd .nearest 5 2, rnd .nearest 9 4, rnd .nearest (-9) 4, rnd .nearest (-5) 2, rnd .nearest (-11) 4,
      rnd .nearest (-91) 2] = [3, 2, -2, -2, -3, -45] := by decide

/-- Section 3.7: METER_NOW's four HI codes with calibration 3, and the frame metering in DOWN. -/
theorem test_meter_now_average :
    (lightSamples 3 4 [0, 1310, 0, 1360, 0, 1270, 0, 1400]).map (fun r => (averageOf .nearest r.1, hiCount r.1)) =
      some (71, 4) := by decide +kernel
theorem test_frame_average_down :
    (lightSamples 3 4 [0, 1300, 0, 1380, 0, 1250, 0, 1420]).map (fun r => averageOf .down r.1) = some 71 := by
  decide +kernel

/-- Section 4.10: the four samples 84, 83, 84, 83. -/
theorem test_dusk_average :
    (lightSamples 0 4 [40, 2600, 38, 2480, 41, 2650, 39, 2520]).map (fun r => averageOf .nearest r.1) = some 84 := by
  decide +kernel

/-- R53: the DARK floor, and the two values either side of the switch point. -/
theorem test_switch_point :
    (sampleOf 0 64 false).value = 96 ∧ (sampleOf 0 63 false).value = 95 ∧ (sampleOf 0 4094 true).value = 95 ∧
      (sampleOf 0 0 true).value = -104 := by decide +kernel

/-- Section 4.9, and the update of section 4.10. -/
theorem test_filter_rest :
    filterStep .down 3 1001 63 = 1001 ∧ filterStep .nearest 3 1004 63 = 1005 ∧ filterStep .nearest 3 1005 63 = 1005 ∧
      filterStep .nearest 3 1013 63 = 1012 ∧ filterStep .nearest 2 1400 84 = 1386 := by decide

/-! ## Interval cap and split -/

/-- R76's table. -/
theorem test_interval_cap :
    [intervalCap 1024, intervalCap 1536, intervalCap 18432, intervalCap 59392, intervalCap 612352] =
      [0, 8, 66, 93, 146] := by decide +kernel

/-- The segment of section 5.9. -/
def nightSegment : Segment :=
  { gate := .always, gateArg1 := 0, gateArg2 := 0, term := .forever, termArg := 0, next := .jump, jump := 0
    interval := 61440, mode := .ramp, fixedE := 0, biasStart := 0, biasEnd := 0, smoothing := 2, slew := 16
    dMin := -208, dMax := 96, gMax := 48, rounding := .nearest }

/-- A frame of section 5.9 whose raw target is `e`. -/
def nightExposure (e : Int) : Exposure :=
  computeExposure
    { seg := nightSegment, f := -16 * e, ePrev := none, fraction := none, iEff := 61440, k := 0, overhead := 2048
      bulbThreshold := -32, link := true }

/-- Frame 730: D = 93, G = 17, 57,552 ticks, gain code 9; an applied gain of 10 leaves −3. -/
theorem test_night_frame_730 :
    ((nightExposure 110).d, (nightExposure 110).g, (nightExposure 110).ticks, (nightExposure 110).gReq,
      (successApplied (nightExposure 110) 0 10).residual) = (93, 17, 57552, 9, -3) := by decide +kernel

/-- Frames 731 and 732: compensation at gain 10. -/
theorem test_night_frames_compensated :
    ((failExposure (nightExposure 96) (some { mode := .bulb, shutter := 0, gain := 10 })).1.applied,
      (failExposure (nightExposure 90) (some { mode := .bulb, shutter := 0, gain := 10 })).1.ticks) =
      (some { value := 27556, gain := 10, residual := 0 }, 21248) := by decide +kernel

/-- Frame 733. -/
theorem test_night_frame_733 : (nightExposure 88).ticks = 46344 := by decide +kernel

/-- R94: the dusk frame's residual. R85: with D = −208 the count 0.125 is held at 1 tick. -/
theorem test_dusk_residual : clampResidual (-91 - 2 * (-45 + 0)) = -1 := by decide
theorem test_shortest_bulb : bulbTicks .nearest 1024 (-208) = 1 := by decide

/-! ## Program store -/

/-- The record of section 1.8, step 2, which the tests below vary. -/
def rawSegment : SegmentRecord :=
  { gateKind := 0, gateArg1 := 0, gateArg2 := 0, termKind := 0, termArg := 600, nextKind := 0, jump := 0
    interval := 10240, expMode := 0, fixedE := 0, biasStart := 0, biasEnd := 0, smoothing := 2, slew := 4
    dMin := BitVec.ofInt 16 (-208), dMax := 96, gMax := 40, rounding := 1 }

/-- Section 1.8, step 3: slew 80 and G_max 120 are stored as 64 and 96, with fields 14 and 17 in the set. -/
theorem test_put_segment_clamps :
    ((checkSegment 1 { rawSegment with gateKind := 2, slew := 80, gMax := 120 }).toOption.map fun g =>
      (g.slew, g.gMax, clampedFields { rawSegment with gateKind := 2, slew := 80, gMax := 120 } g)) =
      some (64, 96, 0x024000) := by decide +kernel

/-- R10: a WINDOW start of 1500, a FRAMES count of 0, an interval of 512. -/
theorem test_put_segment_range_ends :
    ((checkSegment 1 { rawSegment with gateKind := 3, gateArg1 := 1500, termArg := 0, interval := 512 }).toOption.map
      fun g => (g.gateArg1, g.termArg.toNat, g.interval)) = some (1439, 1, 1024) := by decide +kernel

/-- R9: D_min 300 with D_max −250 is refused with field 15, and with D_max 250 accepted. Section 1.8, step 4: JUMP to 30. -/
theorem test_put_segment_refusals :
    (checkSegment 1 { rawSegment with dMin := 300, dMax := BitVec.ofInt 16 (-250) } matches .error 15) = true ∧
      (checkSegment 1 { rawSegment with dMin := 300, dMax := 250 } matches .ok _) = true ∧
      (checkSegment 2 { rawSegment with nextKind := 1, jump := 30 } matches .error 7) = true := by decide +kernel

/-- The segment of `rawSegment`, stored. -/
def seg : Segment :=
  { gate := .always, gateArg1 := 0, gateArg2 := 0, term := .frames, termArg := 600, next := .next, jump := 0
    interval := 10240, mode := .ramp, fixedE := 0, biasStart := 0, biasEnd := 0, smoothing := 2, slew := 4
    dMin := -208, dMax := 96, gMax := 40, rounding := .nearest }

/-- A bank with a segment in slot 0. -/
def bank1 (g : Segment) : Bank := Bank.empty.set 0 (some g)

/-- A bank with segments in slots 0 and 1. -/
def bank2 (g h : Segment) : Bank := (bank1 g).set 1 (some h)

/-- Section 1.8, step 5, and step 8. -/
theorem test_program_check :
    programCheck 2048 (bank2 seg seg) = some (1, .nextUndefined) ∧
      programCheck 2048 (bank2 seg { seg with next := .jump, interval := 30720 }) = none := by decide +kernel

/-! ## Clock, grid, gap -/

/-- R3: the window 1380..120 covers 23:00 to 01:59; equal ends are empty. -/
theorem test_window :
    [inWindow 1380 120 1380, inWindow 1380 120 119, inWindow 1380 120 120, inWindow 1380 120 1379, inWindow 5 5 5] =
      [true, true, false, false, false] := by decide

/-- R40: a segment entered exactly at its minute lasts a full day. -/
theorem test_clock_span : clockSpan 480 (480 * 60) = 86400 ∧ clockSpan 480 (480 * 60 - 1) = 1 := by decide

/-- R158's thresholds: a level falls below 500 and rises at 520. -/
theorem test_charge_levels :
    [nextChargeLevel 3 500, nextChargeLevel 3 499, nextChargeLevel 2 519, nextChargeLevel 2 520, nextChargeLevel 0 1000,
      nextChargeLevel 3 99] = [3, 2, 2, 3, 3, 0] := by decide

/-- Section 8.10: duty 84 from a temperature of 19, and the on-slots of the eight periods. -/
theorem test_heater_duty :
    dutyOf Params.defaults 19 = 84 ∧
      (List.range 8).map (onSlots 84) = [11, 10, 11, 10, 11, 10, 11, 10] := by decide

/-! ## States for the witnesses -/

/-- Awake, idle, with a checked program in bank A and a clock that runs. -/
def awake : State :=
  { State.reset with
    tb := { runCounter := 1000000, seconds := 5000, ticks := 7, valid := true }
    prog := { ProgramStore.reset with bankA := bank1 nightSegment, bankB := bank1 nightSegment }
    line := { LinePort.reset with state := .listening, listenAt := some 1000000 }
    pow := { Power.reset with lastAccrual := 999000, periodicAt := 1048576 } }

/-- `awake` with the sequencer, the camera, the line or the store changed. -/
def seqIn (q : SeqState) : State := awake.modSeq fun r => { r with state := q }
def onLine (f : LinePort → LinePort) : State := awake.modLine f
def inStore (f : ProgramStore → ProgramStore) : State := awake.modProg f

/-- The entry record and the grid of a run in slot 0. -/
def current0 : Current := { slot := 0, entry := { runTime := 900000, w0 := some 4900, span := none, exposureCount := 2, debounce := 0 } }
def grid0 : Grid := { anchor := 941632, index := 1, interval := 61440, factor := 1 }

/-- A run in slot 0 whose next frame is due at 1,003,072, one wake lead ahead. -/
def running : State :=
  awake.modSeq fun r =>
    { r with
      state := .running, runNumber := 1, frameCounter := 2, current := some current0, grid := some grid0
      lastDue := some 941632, prepRegistered := true }

/-- Frame 3 of that run, as handed, and with its computed exposure. -/
def frame3 : Frame := newFrame .run 3 1000000 0 61440 1 Params.defaults
def exposed : Frame := { frame3 with exposure := some (nightExposure 110) }
def timed : Exposure := { nightExposure 110 with mode := .timed }

/-- `running` with a frame in hand in a phase. -/
def inHand (p : Phase) (f : Frame) : State :=
  running.modCam fun c => { c with phase := p, frame := some f, power := true, ready := true }

/-- A record held from RUNNING by the host, and `running` parked with it. -/
def held0 : HoldData :=
  { cause := .host, hostRequested := true, heldFrom := .running, latch := none, trapPhase := none, trapFrame := none
    trapExposure := none, elapsed := 0, resumeSlot := some 0, causeSlot := some 0, fresh := false, exposureCount := 2
    debounce := 0, times := some (900000, some 4900, none), f := 0, ePrev := none, entryRunTime := 950000
    entrySeconds := 4950, entryTicks := 0, entryInvalid := false, stretch := 1 }
def parked (h : HoldData) : State :=
  running.modSeq fun r => { r with state := .hold, hold := some h, prepRegistered := false }

theorem awake_listens : Listening awake := ⟨nofun, rfl⟩
theorem seqIn_listens (q : SeqState) : Listening (seqIn q) := ⟨nofun, rfl⟩
theorem running_listens : Listening running := ⟨nofun, rfl⟩
theorem parked_listens (h : HoldData) : Listening (parked h) := ⟨nofun, rfl⟩

/-- A log record. -/
def record0 : LogRecord :=
  { outcome := .taken, run := 1, frame := 1, segment := 0, flags := 0, cause := .none, dueSeconds := 0, dueTicks := 0
    lAvg := none, eT := none, mode := none, value := 0, gain := none, residual := none, level := 3 }

/-! ## Single steps -/

/-- The state that a command leads to. -/
def after (c : Instr) (s : State) : State :=
  match exec c s with
  | .next t => t
  | .fault _ | .refused _ => s

/-- R46's two cases, at interval 20,480 with the camera off. -/
theorem test_reanchor :
    ((reanchor ((running.modTb fun t => { t with runCounter := 1205000 }).modSeq fun q =>
        { q with lastDue := some 1200000, grid := some { anchor := 1200000, index := 1, interval := 40960, factor := 1 } })).seq.grid.map
      fun g => (g.nextDue, g.index)) = some (1240960, 1) ∧
    ((reanchor ((running.modTb fun t => { t with runCounter := 1230000 }).modSeq fun q =>
        { q with lastDue := some 1200000, grid := some { anchor := 1200000, index := 1, interval := 20480, factor := 2 } })).seq.grid.map
      fun g => (g.nextDue, g.index)) = some (1233072, 0) := by decide +kernel

/-- Section 8.9, 4,240,310: 36,000 ticks at 421,800 µA move 14,829 mA·s, and the frame charge 3 more. -/
theorem test_account_of_a_frame :
    let p := takeCharge (421800 * 36000) { Power.reset with account := 12600005, remainder := 550000 }
    (p.account, p.remainder, (takeCharge (3 * 1024000) p).account, (takeCharge (3 * 1024000) p).remainder) =
      (12585176, 454000, 12585173, 454000) := by decide +kernel

/-- R27, R28: START with no time runs and asks for the seed; the run is number 1. With the voltage LOW the heater asks for
nothing beside it (R162). -/
theorem test_start_begins_a_run :
    let t := after (.start none) (awake.modPow fun p => { p with voltage := .low })
    (t.seq.state, t.seq.runNumber, isRunning t.meter.frame) = (.running, 1, true) := by decide +kernel

/-- R125, R129: HOLD in RUNNING with the camera parked reaches HOLD in its own event, with HOLD_ENTERED and ATN. -/
theorem test_hold_reaches_hold :
    ((after .hold running).seq.state, (after .hold running).line.alerts, (after .hold running).line.atn) =
      (.hold, 0x0001, true) := by decide +kernel

/-- R112, R113: the drop watch ends with READY high, and a frame without a window is TAKEN and logged. -/
theorem test_drop_watch_settles_the_frame :
    let s := (inHand .writing { frame3 with exposure := some (finishWithoutLink (nightExposure 110)) }).modCam fun c =>
      { c with stage := .dropWatch 1000000 }
    ((after .dropWatchExpiry s).log.records.map fun r => (r.outcome, r.value)) = [(.taken, 57552)] := by decide +kernel

/-- R109: a camera that is not ready misses the frame with cause CAMERA_WAKE and counts a fault. -/
theorem test_readiness_failure :
    let s := (inHand .preparing { frame3 with settingAt := some 1000000 }).modCam fun c => { c with ready := false }
    ((after .settingLead s).log.records.map fun r => (r.outcome, r.cause), (after .settingLead s).cam.faultCount) =
      ([(.missed, .cameraWake)], 1) := by decide +kernel

/-- `awake` with one job running since 999,984, and METER_NOW executing. -/
def hostJob : State :=
  (awake.modMeter fun m => { m with host := .running { owner := .host, rounding := .nearest } 999984 2 3 }).modLine fun l =>
    { l with executing := some .meterNow }

/-! ## Witnesses: for each statement, clause by clause, one state and operands that meet the clause's hypotheses together, at the
boundary of their range where they have one -/

theorem witness_IdleStepTicksOrServesACompare :
    (State.reset.pending = [] ∧ dueCompares State.reset = [] ∧ State.reset.tb.runCounter + 1 < 2 ^ 48) ∧
      awake.pending = [] ∧ dueCompares awake = [.listenExpiry] := by decide +kernel

/-- `running` in HOLDING with a record, parked. -/
def holdingIn (h : HoldData) : State :=
  running.modSeq fun r => { r with state := .holding, hold := some h, prepRegistered := false }

theorem witness_EndOfEventFormsWhatTheRulesForm :
    (Settled awake ∧ coreConditions awake = coreConditions awake ∧ Listening awake) ∧
      (∀ h ∈ [held0, { held0 with fresh := true }],
        (holdingIn h).seq.state = .holding ∧ (holdingIn h).seq.hold = some h ∧ (holdingIn h).cam.phase ≠ .idleOn ∧
          (holdingIn h).cam.frame = none ∧ (holdingIn h).cam.drain = false ∧ (holdingIn h).cam.power = false ∧
          (holdingIn h).seq.awaitingSeed = false ∧ (holdingIn h).seq.ending = false ∧
          (holdingIn h).seq.current = some current0) ∧
      ((holdingIn held0).modSeq fun q => { q with ending := true }).seq.ending = true ∧
      ((holdingIn held0).modCam fun c => { c with phase := .writing, drain := true, power := true }).cam.drain = true ∧
      (coreConditions awake = coreConditions (endEvent awake awake) ∧
        coreConditions awake ≠ coreConditions (endEvent awake hostJob)) ∧
      LevelLaw running ∧
      (running.pow.eligible = false ∧ (endEvent awake running).pow.eligible = true) ∧
      ((awake.modPow fun p => { p with eligible := true }).pow.eligible = true ∧
        (endEvent awake (awake.modPow fun p => { p with eligible := true })).pow.eligible = false) ∧
      ((awake.modCam fun c => { c with phase := .idleOn, power := true }).cam.phase = .idleOn ∧
        keepOnHolds (awake.modCam fun c => { c with phase := .idleOn, power := true }) = false) ∧
      awake.cam.phase ≠ .idleOn := by
  unfold Settled Listening LevelLaw; decide +kernel

theorem witness_EndOfEventLeavesNoJobWaiting :
    ∀ c : MeterClass, isRunning (queueSlot (endEvent awake awake).meter c) = false := by
  intro c; cases c <;> decide +kernel

theorem witness_ResetsOfTheStoreTheRampAndTheLog :
    (onLine fun l => { l with breakAt := some 1000000 }).line.breakAt = some 1000000 ∧
      1000000 ≤ (onLine fun l => { l with breakAt := some 1000000 }).tb.runCounter := by decide

theorem witness_RequestsArePlacedInTheCommandSlots :
    requestOf .identify = some .identify ∧ (awake.line.executing = none ∧ awake.line.state = .listening) ∧
      (let s := onLine fun l => { l with executing := some .identify }
       s.line.executing ≠ none ∧ s.line.held = none) ∧
      (let s := onLine fun l => { l with executing := some .identify, held := some .hold }
       s.line.executing ≠ none ∧ s.line.held ≠ none) ∧
      (onLine fun l => { l with state := .speedTrial }).line.state = .speedTrial ∧
      State.reset.line.state = .dormant := by decide

theorem witness_IdentifyAndGetStatusReadBack : Listening awake ∧ 4 ≤ (4 : Byte).toNat := ⟨awake_listens, by decide⟩

theorem witness_ParametersHaveTheTablesRangesAndDefaults :
    Listening awake ∧ (paramOf 0x01 = some .sampleCount ∧ paramOf 0x60 = some .alertMask) ∧
      (¬((0x07 : Byte) ∈
          [(0x01 : Byte), 0x02, 0x03, 0x04, 0x05, 0x06, 0x10, 0x11, 0x12, 0x13, 0x14, 0x15, 0x16, 0x17, 0x20, 0x30, 0x31,
            0x32, 0x33, 0x34, 0x35, 0x36, 0x37, 0x38, 0x39, 0x3A, 0x3B, 0x3C, 0x3D, 0x3E, 0x3F, 0x40, 0x50, 0x60]) ∧
        paramOf 0x07 = none) :=
  ⟨awake_listens, by decide, by simp, by decide⟩

theorem witness_ParametersAreStoredAndRead :
    ((64 : Word).toInt ≤ 64 ∧ (64 < (65 : Word).toInt ∧ (128 : Word).toInt ≤ 128) ∧
        (128 < (129 : Word).toInt ∧ (256 : Word).toInt ≤ 256) ∧ 256 < (257 : Word).toInt) ∧
      (ParamId.vLow ≠ .alertMask ∧ ParamLaw Params.defaults ∧ ParamId.hysteresis ≠ .vLow ∧
        ¬(ParamId.vLow = .vLow ∧ ParamId.hysteresis = .vCrit)) :=
  ⟨by decide, by decide, by unfold ParamLaw; decide, by decide, by decide⟩

/-- R106: with a setting lead of 1024, a meter lead of 1088 is clamped to 1024 and raised back, which is CLAMPED. A sent value in
1025..1088 can come back only so. -/
theorem test_meter_lead_raised_back_is_clamped :
    let s := awake.modParams fun p => { p with settingLead := 1024 }
    (setParam 0x11 1088 s).2.1 = .clamped ∧ (setParam 0x11 1088 s).1.params.meterLead = 1088 ∧
      (setParam 0x11 1024 awake).2.1 = .ok := by decide +kernel

/-- R147: a V_low of 11,099 lowers a V_crit of 11,000 to 10,999, and one of 11,100 leaves it. -/
theorem test_vLow_lowers_vCrit :
    (storeParam Params.defaults .vLow 11099).vCrit = 10999 ∧ (storeParam Params.defaults .vLow 11100).vCrit = 11000 := by
  decide

theorem witness_SetParamIsExaminedInOrder :
    (Listening awake ∧ paramOf 0x00 = none) ∧
      (let s := inStore fun p => { p with lock := true }
       Listening s ∧ 1 ≤ (5 : Byte).toNat ∧ (5 : Byte).toNat ≤ 5 ∧ s.prog.lock = true ∧ s.seq.state ≠ .hold ∧
         paramOf 0x06 = some .linkPresent ∧ ¬(1 ≤ (6 : Byte).toNat ∧ (6 : Byte).toNat ≤ 5)) ∧
      (paramOf 0x03 = some .k ∧ awake.prog.lock = false ∧ ownerTest .k (paramInRange awake.params .k 5) awake = none ∧
        ParamId.k ≠ .overhead ∧ ParamId.k ≠ .logSize) ∧
      (let s := awake.modLog fun l => { l with records := [record0] }
       Listening s ∧ paramOf 0x50 = some .logSize ∧ s.prog.lock = false ∧
         ownerTest .logSize (paramInRange s.params .logSize 64) s = some .empty) ∧
      (let s := awake.modParams fun p => { p with vCrit := 11500 }
       ¬(ParamId.vLow = .vLow ∧ paramValue s.params s.line.mask .vLow - 100 < s.params.vCrit)) := by
  unfold Listening; decide

/-- `awake` with a commit pending on a bank whose only interval is 10,240. -/
def pendingSeg : State := inStore fun p => { p with commitPending := true, bankB := bank1 seg }

theorem noneShort_bank1 (overhead : Nat) (g : Segment) (h : overhead + 1024 ≤ g.interval) : NoneShort overhead (bank1 g) := by
  intro i hi x hx
  interval_cases i <;> first | (cases hx; exact h) | exact absurd hx nofun

theorem witness_OverheadAndLogSizeAreTestedByTheirOwners :
    (Listening awake ∧ awake.prog.lock = false ∧ (max 0 (min 65535 (60417 : Word).toInt)).toNat = 60417 ∧
        FirstShort 60417 (activeBank awake.prog) 0) ∧
      ((inStore fun p => { p with lock := true }).prog.lock = true ∧ awake.seq.state ≠ .hold) ∧
      (pendingSeg.prog.lock = false ∧ pendingSeg.prog.commitPending = true ∧ NoneShort 9217 (activeBank pendingSeg.prog) ∧
        FirstShort 9217 (stagedBank pendingSeg.prog) 0 ∧ NoneShort 9216 (stagedBank pendingSeg.prog)) ∧
      NoneShort 60416 (activeBank awake.prog) ∧
      (awake.modLog fun l => { l with records := [record0] }).log.records ≠ [] ∧
      (awake.log.records = [] ∧ (64 : Word).toInt ≤ 64 ∧ awake.params.logSize ≠ 64) ∧
      ((512 : Int) / 2 < (257 : Word).toInt ∧ awake.params.logSize ≠ 512) ∧
      ((256 : Word).toInt ≤ 256 ∧ (256 : Int) / 2 < (256 : Word).toInt ∧ awake.params.logSize = 256) := by
  refine ⟨⟨awake_listens, by decide, by decide, by decide, ⟨nightSegment, by decide, by decide⟩, nofun⟩, by decide,
    ⟨by decide, by decide, noneShort_bank1 _ _ (by decide), ⟨by decide, ⟨seg, by decide, by decide⟩, nofun⟩,
      noneShort_bank1 _ _ (by decide)⟩, noneShort_bank1 _ _ (by decide), by decide, by decide, by decide, by decide⟩

theorem witness_SetParamActsOnItsOwner :
    (paramValue awake.params awake.line.mask .k ≠ 5 ∧
        ParamId.k ∉ [ParamId.runCurrent, .dozeCurrent, .cameraCurrent, .heaterCurrent, .capacity, .logSize, .alertMask,
          .stretch0, .stretch1, .stretch2, .stretch3]) ∧
      paramValue awake.params awake.line.mask .runCurrent ≠ 0 ∧
      (paramValue awake.params awake.line.mask .capacity ≠ 100 ∧ (0 : Int) ≤ 100) ∧
      paramValue awake.params awake.line.mask .alertMask ≠ 0 ∧
      (paramValue awake.params awake.line.mask .stretch0 ≠ 1 ∧ 0 ≠ awake.pow.budgetLevel) ∧
      (paramValue awake.params awake.line.mask .stretch3 ≠ 8 ∧ 3 = awake.pow.budgetLevel ∧ awake.seq.state ≠ .running) ∧
      (let s := inHand .waitDue exposed
       paramValue s.params s.line.mask .stretch3 ≠ 8 ∧ 3 = s.pow.budgetLevel ∧ s.seq.state = .running ∧
         s.seq.current ≠ none ∧ frameInFlight s = true) ∧
      (let s := running.modParams fun p => { p with stretch3 := 2 }
       paramValue s.params s.line.mask .stretch3 ≠ 1 ∧ 3 = s.pow.budgetLevel ∧ s.seq.state = .running ∧
         s.seq.current ≠ none ∧ frameInFlight s = false ∧ s.seq.grid = some grid0 ∧
         1003072 = s.tb.runCounter + s.params.wakeLead ∧ s.cam.phase = .off ∧
         s.seq.lastDue = some 941632 ∧ 1003072 ≤ 941632 + grid0.interval * (1 : Int).toNat) ∧
      (let s := running.modTb fun t => { t with runCounter := 2000000 }
       paramValue s.params s.line.mask .stretch3 ≠ 8 ∧ 3 = s.pow.budgetLevel ∧ s.seq.state = .running ∧
         s.seq.current ≠ none ∧ frameInFlight s = false ∧ s.seq.grid = some grid0 ∧ s.seq.lastDue = some 941632 ∧
         941632 + grid0.interval * (8 : Int).toNat < s.tb.runCounter + s.params.wakeLead) ∧
      ParamId.k ≠ .vLow := by decide

/-- What a refusing PUT_SEGMENT finds first, as the statement has it. -/
def firstBadField (slot : Byte) (r : SegmentRecord) : Option Nat :=
  if 24 ≤ slot.toNat then some 0 else if 5 ≤ r.gateKind.toNat then some 1
  else if 7 ≤ r.termKind.toNat then some 4 else if 3 ≤ r.nextKind.toNat then some 6
  else if r.nextKind.toNat = 1 ∧ 24 ≤ r.jump.toNat then some 7 else if 3 ≤ r.expMode.toNat then some 9
  else if 2 ≤ r.rounding.toNat then some 18
  else if max (-208) (min 192 r.dMax.toInt) < max (-208) (min 192 r.dMin.toInt) then some 15 else none

theorem witness_PutSegmentIsRefusedInFieldOrder :
    (let s := inStore fun p => { p with lock := true }
     Listening s ∧ s.prog.lock = true ∧ s.seq.state ≠ .hold) ∧
      (let s := inStore fun p => { p with commitPending := true }
       Listening s ∧ s.prog.lock = false ∧ s.prog.commitPending = true) ∧
      (Listening awake ∧ awake.prog.lock = false ∧ awake.prog.commitPending = false) ∧
      [firstBadField 24 rawSegment, firstBadField 23 { rawSegment with gateKind := 5 },
          firstBadField 0 { rawSegment with termKind := 7 }, firstBadField 0 { rawSegment with nextKind := 3 },
          firstBadField 0 { rawSegment with nextKind := 1, jump := 24 }, firstBadField 0 { rawSegment with expMode := 3 },
          firstBadField 0 { rawSegment with rounding := 2 },
          firstBadField 0 { rawSegment with dMin := 192, dMax := 191 }] =
        [some 0, some 1, some 4, some 6, some 7, some 9, some 18, some 15] := by
  unfold Listening; decide

/-- R9, R10: what is no refusal: a jump target that no JUMP uses, D_min above D_max before the clamping only, slot 23, the last
code of each kind. -/
theorem test_put_segment_takes_what_nothing_refuses :
    ∀ x ∈ [((0 : Byte), { rawSegment with jump := 255 }), (0, { rawSegment with dMin := 300, dMax := 250 }),
        (23, { rawSegment with gateKind := 4, termKind := 6, nextKind := 2, expMode := 2 })],
      firstBadField x.1 x.2 = none ∧ (checkSegment x.1 x.2 matches .ok _) = true := by decide +kernel

theorem witness_PutSegmentStoresTheClampedRecord :
    Listening awake ∧ awake.prog.lock = false ∧ awake.prog.commitPending = false ∧
      checkSegment 23 rawSegment = .ok seg :=
  ⟨awake_listens, by decide, by decide, by rfl⟩

theorem witness_StoreIsReadClearedAndLocked :
    (Listening awake ∧ 24 ≤ (24 : Byte).toNat ∧ (23 : Byte).toNat < 24 ∧ 2 ≤ (2 : Byte).toNat) ∧
      (let s := inStore fun p => { p with lock := true }
       Listening s ∧ s.prog.lock = true ∧ s.seq.state ≠ .hold) ∧
      (let s := inStore fun p => { p with commitPending := true }
       Listening s ∧ s.prog.lock = false ∧ s.prog.commitPending = true) ∧
      awake.prog.lock = false ∧ awake.prog.commitPending = false := by
  unfold Listening; decide

theorem witness_ProgramCheckReportsTheFirstFailure :
    slotOf Bank.empty 0 = none ∧ slotOf (bank1 seg) 0 ≠ none ∧
      programCheck 2048 (bank1 seg) = some (0, .nextUndefined) ∧
      programCheck 2048 (bank1 { seg with next := .jump, jump := 23 }) = some (0, .jumpUndefined) ∧
      programCheck 9217 (bank1 { seg with next := .finish }) = some (0, .intervalShort) ∧
      programCheck 9216 (bank1 { seg with next := .finish }) = none := by decide +kernel

/-- A test shot in flight. -/
def testing : State := awake.modCam fun c => { c with phase := .waking, power := true, frame := some { frame3 with kind := .test } }

theorem witness_CommitIsExaminedInOrder :
    (let s := inStore fun p => { p with lock := true }
     Listening s ∧ s.prog.lock = true ∧ s.seq.state ≠ .hold) ∧
      (let s := inStore fun p => { p with commitPending := true }
       Listening s ∧ s.prog.lock = false ∧ s.prog.commitPending = true) ∧
      (Listening (seqIn .holding) ∧ (seqIn .holding).prog.lock = false ∧ (seqIn .holding).prog.commitPending = false ∧
        (seqIn .holding).seq.state = .holding) ∧
      (Listening testing ∧ testing.prog.lock = false ∧ testing.prog.commitPending = false ∧ testing.seq.state = .idle ∧
        testInFlight testing = true) ∧
      (let s := inStore fun p => { p with bankB := Bank.empty }
       Listening s ∧ s.prog.lock = false ∧ s.prog.commitPending = false ∧ s.seq.state ≠ .holding ∧
         testInFlight s = false ∧ programCheck s.params.overhead (stagedBank s.prog) = some (0, .slot0Empty)) ∧
      (∀ s ∈ [awake, running, inHand .preparing frame3, seqIn .armed],
        Listening s ∧ s.prog.lock = false ∧ s.prog.commitPending = false ∧ s.seq.state ≠ .holding ∧
          testInFlight s = false ∧ programCheck s.params.overhead (stagedBank s.prog) = none) ∧
      (frameInFlight (inHand .preparing frame3) = true ∧ frameInFlight running = false ∧ awake.seq.state = .idle) := by
  unfold Listening; decide +kernel

theorem witness_CommitSwapsAndRestartsTheWalk :
    (∀ s ∈ [running, parked held0, parked { held0 with heldFrom := .armed },
          running.modSeq fun q => { q with awaitingSeed := true }],
        Listening s ∧ s.prog.lock = false ∧ s.prog.commitPending = false ∧
          programCheck s.params.overhead (stagedBank s.prog) = none) ∧
      (∀ h ∈ [held0, { held0 with heldFrom := .armed }],
        (parked h).seq.state = .hold ∧ (parked h).seq.hold = some h) ∧
      (running.seq.state = .running ∧ frameInFlight running = false ∧ running.seq.awaitingSeed = false ∧
        running.seq.current ≠ none) ∧
      (let s := running.modSeq fun q => { q with awaitingSeed := true }
       s.seq.state = .running ∧ frameInFlight s = false ∧ s.seq.awaitingSeed = true) := by
  unfold Listening; decide +kernel

/-- `running` with a segment in slot 0, and the walk's count. -/
def walkingOn (g : Segment) (n : Nat) : State :=
  (running.modProg fun p => { p with bankA := bank1 g }).modSeq fun q => { q with walkCount := n }

theorem witness_WalkEntersSlotsInOrder :
    23 ≤ (walkingOn nightSegment 23).seq.walkCount ∧
      (let s := walkingOn nightSegment 22
       s.seq.walkCount < 23 ∧ gateTrue s (segmentAt s 0) = true ∧ (segmentAt s 0).term ≠ .levelBelow) ∧
      (let s := walkingOn { nightSegment with gate := .window } 22
       s.seq.walkCount < 23 ∧ gateTrue s (segmentAt s 0) = false) ∧
      (let s := (walkingOn { nightSegment with term := .levelBelow, termArg := 3 } 22).modPow fun p =>
         { p with budgetLevel := 2 }
       s.seq.walkCount < 23 ∧ gateTrue s (segmentAt s 0) = true ∧ (segmentAt s 0).term = .levelBelow ∧
         s.pow.budgetLevel < (segmentAt s 0).termArg.toNat) ∧
      (running.modMeter fun m => { m with lLast := some 63 }).meter.lLast = some 63 ∧ running.tb.valid = true ∧
      (running.modTb fun t => { t with valid := false }).tb.valid = false ∧ running.tb.seconds % 86400 / 60 = 83 := by
  decide +kernel

theorem witness_ClockTerminationMeasuresTheCrossing :
    (let g := { seg with term := .clock, termArg := 480 }
     let e := { current0.entry with span := some 100 }
     g.term = .clock ∧ e.w0 = some 4900 ∧ e.span = some 100) ∧
      ({ seg with term := .clock, termArg := 480 } : Segment).term = .clock ∧
      (({ current0.entry with w0 := none } : Entry).w0 = none ∧ awake.tb.valid = true) ∧
      (({ seg with term := .duration, termArg := 1 } : Segment).term = .duration ∧
        current0.entry.runTime ≤ awake.tb.runCounter) ∧ current0.entry.w0 ≠ none := by decide

/-- ARMED with a kept start time; the clock stands at 5,000. -/
def armedAt (k : Nat) : State := (seqIn .armed).modSeq fun q => { q with armedStart := some k }

theorem witness_ClockIsSetAndArmedStartIsReached :
    (Listening awake ∧ awake.seq.state ≠ .armed) ∧
      (Listening (armedAt 5001) ∧ (armedAt 5001).seq.armedStart = some 5001 ∧ (5000 : Word).toNat < 5001 ∧
        (armedAt 5001).seq.state = .armed ∧ 5001 ≤ (5001 : Word).toNat ∧ (armedAt 5001).tb.seconds < 5001) ∧
      ((armedAt 5000).seq.state = .armed ∧ (armedAt 5000).seq.armedStart = some 5000 ∧ 5000 ≤ (armedAt 5000).tb.seconds ∧
        (armedAt 5000).pow.voltage ≠ .critical) ∧
      (let s := (armedAt 5000).modPow fun p => { p with voltage := .critical }
       s.seq.state = .armed ∧ 5000 ≤ s.tb.seconds ∧ s.pow.voltage = .critical ∧ s.seq.stopPending = false) := by
  unfold Listening; decide

theorem witness_StartBeginsOrArmsARun :
    (Listening running ∧ running.seq.state = .running) ∧
      (Listening testing ∧ testing.seq.state = .idle ∧ testInFlight testing = true) ∧
      (let s := inStore fun p => { p with bankA := Bank.empty }
       Listening s ∧ s.seq.state = .idle ∧ testInFlight s = false ∧
         programCheck s.params.overhead (activeBank s.prog) = some (0, .slot0Empty)) ∧
      (let s := awake.modTb fun t => { t with valid := false }
       Listening s ∧ s.seq.state = .idle ∧ testInFlight s = false ∧
         programCheck s.params.overhead (activeBank s.prog) = none ∧ s.tb.valid = false) ∧
      (∀ s ∈ [awake, awake.modPow fun p => { p with voltage := .critical }],
        Listening s ∧ s.seq.state = .idle ∧ testInFlight s = false ∧
          programCheck s.params.overhead (activeBank s.prog) = none ∧ s.tb.valid = true ∧
          (5000 : Word).toNat ≤ s.tb.seconds ∧ s.tb.seconds < (5001 : Word).toNat) := by
  unfold Listening; decide +kernel

theorem witness_StopActsByState :
    (Listening awake ∧ awake.seq.state = .idle) ∧ (Listening (seqIn .armed) ∧ (seqIn .armed).seq.state = .armed) ∧
      (Listening running ∧ running.seq.state = .running ∧ running.seq.stopPending = false ∧
        frameInFlight running = false) ∧
      (Listening (seqIn .holding) ∧ (seqIn .holding).seq.state = .holding) ∧
      (let s := running.modSeq fun q => { q with stopPending := true }
       Listening s ∧ s.seq.state = .running ∧ s.seq.stopPending = true) ∧
      (let s := inHand .exposing exposed
       Listening s ∧ s.seq.state = .running ∧ s.seq.stopPending = false ∧ frameInFlight s = true ∧
         s.cam.phase = .exposing) ∧
      (∀ s ∈ [inHand .waitDue exposed, (inHand .waitDue exposed).modProg fun p => { p with commitPending := true }],
        Listening s ∧ s.seq.state = .running ∧ s.seq.stopPending = false ∧ frameInFlight s = true ∧
          s.cam.frame = some exposed ∧ s.cam.phase = .waitDue) := by
  unfold Listening; decide +kernel

theorem witness_HoldRepliesByState :
    (Listening awake ∧ awake.seq.state = .idle) ∧
      (let s := (seqIn .holding).modSeq fun q => { q with ending := true }
       Listening s ∧ s.seq.state = .holding ∧ s.seq.ending = true) ∧
      (Listening (seqIn .armed) ∧ (seqIn .armed).seq.state = .armed) ∧
      (Listening running ∧ running.seq.state = .running ∧ running.seq.stopPending = false) ∧
      (∀ h ∈ [held0, { held0 with latch := some .power }],
        Listening (parked h) ∧ (parked h).seq.hold = some h ∧ (parked h).seq.state = .hold) ∧
      held0.latch = none := by
  unfold Listening; decide

theorem witness_HoldEntryWithNothingInHandReachesHold :
    (∀ s ∈ [running, running.modSeq fun q => { q with awaitingSeed := true }, seqIn .armed],
        s.cam.frame = none ∧ s.cam.drain = false ∧ s.cam.phase = .off ∧ s.cam.power = false) ∧
      (running.seq.state = .running ∧ running.seq.awaitingSeed = false ∧ running.seq.current = some current0 ∧
        running.seq.grid = some grid0) ∧
      (running.modSeq fun q => { q with awaitingSeed := true }).seq.awaitingSeed = true ∧
      (seqIn .armed).seq.state = .armed ∧
      (let s := running.modCam fun c => { c with phase := .idleOn, power := true }
       s.cam.frame = none ∧ s.cam.drain = false ∧ s.cam.phase = .idleOn ∧ s.cam.power = true ∧
         s.seq.awaitingSeed = false) ∧
      (∀ p ∈ [Phase.waking, .preparing, .setting, .waitDue, .exposing, .writing], ∀ pend ∈ [false, true],
        let s := (inHand p exposed).modProg fun q => { q with commitPending := pend }
        s.seq.state = .running ∧ s.seq.awaitingSeed = false ∧ s.seq.current = some current0 ∧
          s.cam.frame = some exposed ∧ exposed.kind = .run ∧ s.cam.drain = false ∧ s.cam.phase = p ∧
          s.prog.commitPending = pend) ∧ exposed.exposure = some (nightExposure 110) := by decide +kernel

/-- `parked` while the voltage state is CRITICAL. -/
def parkedCritical (h : HoldData) : State := (parked h).modPow fun p => { p with voltage := .critical }

theorem witness_ResumeIsExaminedAndMayReenter :
    (Listening running ∧ running.seq.state ≠ .hold) ∧
      (Listening (parked held0) ∧ (parked held0).seq.state = .hold ∧ (parked held0).seq.hold = some held0 ∧
        2 ≤ (2 : Byte).toNat ∧ (1 : Byte).toNat < 2) ∧
      (let h : HoldData := { held0 with cause := .power }
       Listening (parkedCritical h) ∧ (parkedCritical h).seq.state = .hold ∧ (parkedCritical h).seq.hold = some h ∧
         h.cause = .power ∧ (parkedCritical h).pow.voltage = .critical) ∧
      (let h : HoldData := { held0 with latch := some .loop }
       (parked h).seq.state = .hold ∧ (parked h).seq.hold = some h ∧ h.latch = some .loop ∧
         (parked h).pow.voltage ≠ .critical) ∧
      ((parkedCritical held0).seq.hold = some held0 ∧ held0.cause ≠ .power ∧ held0.latch = none ∧
        (parkedCritical held0).pow.voltage = .critical) := by
  unfold Listening; decide

theorem witness_ResumeNumbersTheLostDuesInOneGap :
    (∀ n ∈ [1000000, 1000001],
        let s := (parked held0).modTb fun t => { t with runCounter := n }
        s.seq.grid = some grid0 ∧ 1 ≤ grid0.interval ∧ 1 ≤ stretch s ∧ s.seq.lastDue = some 941632 ∧
          duesLost s grid0 = n - 1000000) ∧
      (let g : Grid := { grid0 with index := 0 }
       let s := ((parked held0).modSeq fun q => { q with grid := some g, lastDue := none }).modTb fun t =>
         { t with runCounter := 1100000 }
       s.seq.grid = some g ∧ 1 ≤ g.interval ∧ 1 ≤ stretch s ∧ g.index = 0 ∧ duesLost s g = 3) := by decide +kernel

/-- `parked` with a segment in slot 0. -/
def parkedOn (g : Segment) (h : HoldData) : State := (parked h).modProg fun p => { p with bankA := bank1 g }

theorem witness_ResumeSkipContinuesTheHeldSegment :
    (∀ g ∈ [nightSegment, { nightSegment with term := .frames, termArg := 2 }],
        let s := parkedOn g held0
        Listening s ∧ s.seq.state = .hold ∧ s.seq.hold = some held0 ∧ held0.latch = none ∧ s.pow.voltage ≠ .critical ∧
          held0.heldFrom = .running ∧ held0.fresh = false ∧ s.seq.grid = some grid0 ∧ held0.resumeSlot = some 0 ∧
          held0.times = some (900000, some 4900, none) ∧
          terminationTrue s (segmentAt s 0)
            (takeW0 s.tb (segmentAt s 0)
              { runTime := 900000, w0 := some 4900, span := none, exposureCount := 2, debounce := 0 }) =
            decide (g.term = .frames)) ∧
      held0.trapPhase = none := by
  unfold Listening; decide +kernel

theorem witness_ResumeRetriesEntersAfreshOrGoesBackToArmed :
    (let h : HoldData := { held0 with trapPhase := some .exposing, trapFrame := some 2 }
       let s := parkedOn nightSegment h
       Listening s ∧ s.seq.state = .hold ∧ s.seq.hold = some h ∧ h.latch = none ∧ s.pow.voltage ≠ .critical ∧
         h.heldFrom = .running ∧ h.fresh = false ∧ s.seq.grid = some grid0 ∧ h.resumeSlot = some 0 ∧
         h.times = some (900000, some 4900, none) ∧ h.trapPhase = some .exposing ∧ s.cam.phase = .off ∧
         s.params.settingLead < s.params.wakeLead ∧ (takeGap h s).seq.grid = some grid0 ∧
         terminationTrue s (segmentAt s 0)
           (takeW0 s.tb (segmentAt s 0)
             { runTime := 900000, w0 := some 4900, span := none, exposureCount := 2, debounce := 0 }) = false) ∧
      (let h : HoldData := { held0 with fresh := true, times := none }
       Listening (parked h) ∧ (parked h).seq.state = .hold ∧ (parked h).seq.hold = some h ∧ h.heldFrom = .running ∧
         h.fresh = true ∧ h.resumeSlot = some 0) ∧
      (∀ start ∈ [5000, 5001],
        let h : HoldData := { held0 with heldFrom := .armed, resumeSlot := none }
        let s := (parked h).modSeq fun q => { q with armedStart := some start, grid := none }
        Listening s ∧ s.seq.state = .hold ∧ s.seq.hold = some h ∧ h.heldFrom = .armed ∧
          s.seq.armedStart = some start ∧ (s.tb.seconds < start ↔ start = 5001)) := by
  unfold Listening; decide +kernel

/-- The retry's clause in COOLDOWN: one joint state. -/
theorem witness_ResumeRetriesInCooldown :
    let h : HoldData := { held0 with trapPhase := some .exposing, trapFrame := some 2 }
    let s := (parkedOn nightSegment h).modCam fun c => { c with phase := .cooldown, cooldownEnd := some 1001000 }
    Listening s ∧ s.seq.state = .hold ∧ s.seq.hold = some h ∧ h.latch = none ∧ s.pow.voltage ≠ .critical ∧
      h.heldFrom = .running ∧ h.fresh = false ∧ s.seq.grid = some grid0 ∧ h.resumeSlot = some 0 ∧
      h.times = some (900000, some 4900, none) ∧ h.trapPhase = some .exposing ∧ s.cam.phase = .cooldown ∧
      s.params.settingLead < s.params.wakeLead ∧
      terminationTrue s (segmentAt s 0)
        (takeW0 s.tb (segmentAt s 0)
          { runTime := 900000, w0 := some 4900, span := none, exposureCount := 2, debounce := 0 }) = false := by
  unfold Listening; decide +kernel

/-- The retry's clauses with the wake lead equal to the setting lead: READY low from COOLDOWN, READY high from OFF. -/
theorem witness_ResumeRetriesAtTheSettingLead :
    ∀ x ∈ [(Phase.cooldown, false), (.off, false), (.off, true)],
      let h : HoldData := { held0 with trapPhase := some .exposing, trapFrame := some 2 }
      let s := ((parkedOn nightSegment h).modCam fun c => { c with phase := x.1, ready := x.2 }).modParams fun p =>
        { p with wakeLead := 1024, settingLead := 1024 }
      Listening s ∧ s.seq.state = .hold ∧ s.seq.hold = some h ∧ h.latch = none ∧ s.pow.voltage ≠ .critical ∧
        h.heldFrom = .running ∧ h.fresh = false ∧ s.seq.grid = some grid0 ∧ h.resumeSlot = some 0 ∧
        h.times = some (900000, some 4900, none) ∧ h.trapPhase = some .exposing ∧ s.cam.phase = x.1 ∧
        s.cam.ready = x.2 ∧ s.params.settingLead = s.params.wakeLead ∧ 0 < s.params.wakeLead ∧
        s.prog.commitPending = false ∧
        terminationTrue s (segmentAt s 0)
          (takeW0 s.tb (segmentAt s 0)
            { runTime := 900000, w0 := some 4900, span := none, exposureCount := 2, debounce := 0 }) = false := by
  unfold Listening; decide +kernel

theorem witness_ResumeRecordIsReadAndRewritten :
    (Listening running ∧ running.seq.state ≠ .hold) ∧
      (let h : HoldData := { held0 with heldFrom := .armed }
       Listening (parked h) ∧ (parked h).seq.state = .hold ∧ (parked h).seq.hold = some h ∧ h.heldFrom = .armed) ∧
      (Listening (parked held0) ∧ (parked held0).seq.state = .hold ∧ (parked held0).seq.hold = some held0 ∧
        held0.heldFrom = .running ∧ slotOf (activeBank (parked held0).prog) (1 : Byte).toNat = none ∧
        slotOf (activeBank (parked held0).prog) (24 : Byte).toNat = none ∧
        slotOf (activeBank (parked held0).prog) (0 : Byte).toNat = some nightSegment) := by
  unfold Listening; decide +kernel

theorem witness_TestShotIsExaminedAndHanded :
    (Listening running ∧ running.seq.state = .running) ∧
      (Listening testing ∧ testing.seq.state = .idle ∧ testInFlight testing = true) ∧
      (let s := awake.modCam fun c => { c with phase := .cooldown }
       Listening s ∧ s.seq.state = .idle ∧ s.cam.phase = .cooldown) ∧
      (let s := inStore fun p => { p with bankA := Bank.empty }
       Listening s ∧ s.seq.state = .idle ∧ testInFlight s = false ∧ s.cam.phase ≠ .cooldown ∧
         programCheck s.params.overhead (activeBank s.prog) = some (0, .slot0Empty)) ∧
      (∀ s ∈ [awake, awake.modParams fun p => { p with wakeLead := 1024, meterLead := 1024 }],
        Listening s ∧ s.seq.state = .idle ∧ testInFlight s = false ∧ s.cam.phase ≠ .cooldown ∧
          programCheck s.params.overhead (activeBank s.prog) = none ∧ s.cam.phase = .off ∧
          s.params.settingLead < s.params.wakeLead) ∧
      max awake.params.meterLead (awake.params.settingLead + 64) < awake.params.wakeLead ∧
      (1024 : Nat) ≤ max 1024 (awake.params.settingLead + 64) := by
  unfold Listening; decide +kernel

/-- A test shot whose setting lead is reached at its handing, with READY low and high. -/
theorem witness_TestShotAtTheSettingLead :
    ∀ ready ∈ [false, true],
      let s := (awake.modCam fun c => { c with ready := ready }).modParams fun p =>
        { p with wakeLead := 1024, settingLead := 1024 }
      Listening s ∧ s.seq.state = .idle ∧ testInFlight s = false ∧ s.cam.phase ≠ .cooldown ∧
        programCheck s.params.overhead (activeBank s.prog) = none ∧ s.cam.phase = .off ∧ s.cam.ready = ready ∧
        s.params.settingLead = s.params.wakeLead ∧ 0 < s.params.wakeLead := by
  unfold Listening; decide +kernel

theorem witness_MeterNowIsAnsweredAtItsJobsEnd :
    Listening awake ∧
      (∀ s ∈ [hostJob, hostJob.modLine fun l => { l with executing := none }],
        (isRunning s.meter.frame = false ∧ isRunning s.meter.battery = false ∧ isRunning s.meter.temperature = false ∧
          isRunning s.meter.solar = false) ∧
          s.meter.host = .running { owner := .host, rounding := .nearest } 999984 2 3 ∧
          (jobResult .host 2 3 [0, 1310, 0, 1360, 0, 1270, 0, 1400]).isSome = true ∧
          999984 + 2 * 8 ≤ s.tb.runCounter) ∧
      (hostJob.line.executing = some .meterNow ∧ hostJob.line.reply = none) ∧ awake.line.executing ≠ some .meterNow := by
  unfold Listening; decide +kernel

theorem witness_MeterNowsJobHasAResult :
    ∃ xs, jobResult .host 2 3 [0, 1310, 0, 1360, 0, 1270, 0, 1400] = some (.light xs 8) := ⟨_, by rfl⟩

/-- `awake` with BATTERY and SOLAR both waiting, as the periodic compare leaves them. -/
def twoWait : State := meterRequest .solar .power .down (meterRequest .battery .power .down awake)

theorem witness_MeterQueueMergesAndGrants :
    (isRunning (queueSlot awake.meter .frame) = false ∧
        queueSlot hostJob.meter .host = .running { owner := .host, rounding := .nearest } 999984 2 3) ∧
      isRunning (queueSlot hostJob.meter .host) = true ∧
      [MeterClass.frame, .battery, .temperature, .solar, .host] = [.frame] ++ .battery :: [.temperature, .solar, .host] ∧
      isWaiting (queueSlot twoWait.meter .frame) = false ∧
      (queueSlot twoWait.meter .battery = .waiting { owner := .power, rounding := .down } ∧
        queueSlot twoWait.meter .solar = .waiting { owner := .power, rounding := .down }) ∧
      (awake.cam.phase ≠ .idleOn ∧ awake.seq.state ≠ .holding ∧ heaterConditions awake = awake.pow.eligible) := by
  decide

theorem witness_MeterQueueStartsOnAnIdleConverter :
    (∀ c : MeterClass, isRunning (queueSlot twoWait.meter c) = false) ∧
      ∀ c ∈ [MeterClass.temperature, .solar, .host],
        isWaiting (queueSlot (meterRequest .battery .power .down awake).meter c) = false :=
  ⟨by intro c; cases c <;> rfl, by decide⟩

theorem witness_ChargeIsSetAndPowerIsRead :
    Listening awake ∧ (7000 : Half).toNat * 3600 ≤ awake.params.capacity * 3600 ∧ awake.cam.phase ≠ .idleOn ∧
      (100 ≤ 100 ∧ 100 < 120) ∧ (120 ≤ 120 ∧ 120 < 250) ∧ (250 ≤ 250 ∧ 250 < 270) ∧ (270 ≤ 270 ∧ 270 < 500) ∧
      (500 ≤ 500 ∧ 500 < 520) ∧ Voltage.low ≠ .normal := by
  unfold Listening; decide

theorem witness_LogAlertsAndStatsAreReadBack :
    Listening awake ∧ ∃ t, exec .readAlerts awake = .next t ∧ t.seq.state ≠ .hold :=
  ⟨awake_listens, _, rfl, by decide +kernel⟩

theorem witness_LinkSpeedSwitchesWhenTheReplyIsSent :
    (Listening awake ∧ 4 ≤ (4 : Byte).toNat ∧
        ((3 : Byte), Speed.b115200) ∈ [((0 : Byte), Speed.b9600), (1, .b19200), (2, .b57600), (3, .b115200)]) ∧
      ∀ sp ∈ [none, some Speed.b57600], ∀ r ∈ [none, some Request.stop],
        let s := onLine fun l =>
          { l with
            executing := some .identify, reply := some (replyTo .identify .ok .empty), switchTo := sp, held := r }
        s.line.reply ≠ none ∧ s.line.executing ≠ none ∧ s.line.switchTo = sp ∧ s.line.held = r := by
  unfold Listening; decide

/-- `awake` with a frame under assembly whose gap timer has just run out. -/
def assembling : State := onLine fun l => { l with assembling := true, gapAt := some 1000000 }

/-- R22, R186: an expired gap timer is served with no row to tell it. -/
theorem test_gap_timer_is_a_compare : dueCompares assembling = [.listenExpiry, .gapError] := by decide +kernel

theorem witness_CompleteFrameIsCheckedAndHandedOn :
    (assembling.line.state ≠ .dormant ∧ assembling.line.awaitHigh = false ∧ assembling.line.assembling = true ∧
        assembling.line.executing = none) ∧
      (List.replicate 64 (0 : Byte)).length ≤ 64 ∧ 64 < (List.replicate 65 (0 : Byte)).length ∧ frameCrc 0x52 [] = 0xB9 ∧ (0 : Byte) ≠ frameCrc 0x52 [] ∧
      decodeRequest 0x77 [] = .unknownKind 0x77 ∧ decodeRequest 0x52 [0] = .badLength 0x52 :=
  ⟨by decide, by simp, by simp, by decide +kernel, by decide +kernel, by decide, by decide⟩

/-- R187, R188: a low stop bit in the wake window is no receiver error; the break is timed from the line's fall. -/
theorem test_break_is_timed_in_the_wake_window :
    let t := after (.stopBitError 8 6) (onLine fun l => { l with wakeEdgeAt := some 999991, breakAt := some 1000055 })
    (t.line.framingErrors, t.line.awaitHigh, t.line.breakAt) = (0, false, some 1000058) := by decide

theorem witness_DecodedRequestsAreTheCatalogs :
    (0x04 : Byte) ∉ [(0x01 : Byte), 0x02, 0x03, 0x05] ∧ ((0x20 : Byte), [0, 4]) ∈ [((0x20 : Byte), [0, 4])] ∧
      ([0, 0, 0, 0] : List Byte).length ∈ [0, 4] ∧ ([0] : List Byte).length ∉ [0, 4] := by decide

theorem witness_EveryRequestDecodesFromItsBytes :
    Request.payload (.setResumePoint 3 0x0102) = some [3, 0x02, 0x01] := by decide

theorem witness_ReceiverBeginsFramesAndCountsErrors :
    (awake.line.state ≠ .dormant ∧ awake.line.awaitHigh = false ∧ awake.line.wakeEdgeAt = none) ∧
      (let s := onLine fun l => { l with wakeEdgeAt := some 999986 }
       s.line.state ≠ .dormant ∧ s.line.awaitHigh = false ∧ s.line.wakeEdgeAt = some 999986 ∧
         999986 + 4 + 10 ≤ s.tb.runCounter ∧ s.tb.runCounter < 999986 + 4 + 11) ∧
      (assembling.line.state ≠ .dormant ∧ assembling.line.awaitHigh = false ∧ assembling.line.assembling = true ∧
        64 < (65 : Byte).toNat ∧ assembling.line.gapAt = some 1000000 ∧ 1000000 ≤ assembling.tb.runCounter) ∧
      (let s := onLine fun l => { l with awaitHigh := true }
       s.line.state ≠ .dormant ∧ s.line.awaitHigh = true) ∧
      (onLine fun l => { l with breakAt := some 1000064 }).line.breakAt ≠ none ∧ awake.line.breakAt = none := by decide

theorem witness_LineStateFollowsItsEvents :
    (let s := onLine fun l => { l with breakAt := some 1000000 }
     s.line.breakAt = some 1000000 ∧ 1000000 ≤ s.tb.runCounter) ∧
      (let s := onLine fun l => { l with breakAt := some 1000001 }
       s.line.breakAt = some 1000001 ∧ s.tb.runCounter < 1000001) ∧
      awake.line.breakAt = none ∧ State.reset.line.state = .dormant ∧ awake.line.state ≠ .dormant ∧
      (1000000 ≤ awake.tb.runCounter ∧ awake.line.state = .listening ∧ awake.line.listenAt = some 1000000 ∧
        awake.line.executing = none ∧ awake.line.held = none ∧ awake.line.reply = none ∧ awake.line.assembling = false) ∧
      (assembling.line.state = .listening ∧ assembling.line.listenAt = some 1000000 ∧
        assembling.line.assembling ≠ false) ∧
      (let s := onLine fun l => { l with state := .speedTrial, trialAt := some 1000000 }
       s.line.state = .speedTrial ∧ s.line.trialAt = some 1000000) := by decide

/-- `running` whose next frame is due one meter lead ahead, in a segment of slot 0, with the camera as it is there. -/
def atMeterLead (g : Segment) (s : State) : State :=
  (s.modSeq fun q => { q with grid := some { grid0 with anchor := 938944 } }).modProg fun p => { p with bankA := bank1 g }

theorem witness_PreparationStartMissesOrDropsAFrame :
    (let s := atMeterLead nightSegment (inHand .writing exposed)
     let g : Grid := { grid0 with anchor := 938944 }
     s.seq.state = .running ∧ s.seq.stopPending = false ∧ s.seq.prepRegistered = true ∧ s.seq.grid = some g ∧
       s.seq.current = some current0 ∧ frameInFlight s = true ∧
       g.nextDue ≤ s.tb.runCounter + max s.params.meterLead (s.params.settingLead + 64)) ∧
      ∀ x ∈ [((97 : Word), TermKind.duration, (3 : Nat)), (1, .levelBelow, 0)],
        let gs := { nightSegment with term := x.2.1, termArg := x.1 }
        let s := (atMeterLead gs running).modPow fun p => { p with budgetLevel := x.2.2 }
        let g : Grid := { grid0 with anchor := 938944 }
        s.seq.state = .running ∧ s.seq.stopPending = false ∧ s.seq.prepRegistered = true ∧ s.seq.grid = some g ∧
          s.seq.current = some current0 ∧ s.cam.frame = none ∧
          g.nextDue ≤ s.tb.runCounter + max s.params.meterLead (s.params.settingLead + 64) ∧
          (segmentAt s 0).term = x.2.1 ∧
          terminationTrue s (segmentAt s 0) (takeW0 s.tb (segmentAt s 0) current0.entry) = true := by decide +kernel

theorem witness_PreparationStartNumbersAndHandsAFrame :
    (let s := running
     s.seq.state = .running ∧ s.seq.stopPending = false ∧ s.seq.prepRegistered = true ∧ s.seq.grid = some grid0 ∧
       s.seq.current = some current0 ∧ s.cam.frame = none ∧ (segmentAt s 0).term = .forever ∧ s.cam.phase = .off ∧
       grid0.nextDue ≤ s.tb.runCounter + s.params.wakeLead ∧
       s.tb.runCounter + max s.params.meterLead (s.params.settingLead + 64) < grid0.nextDue) ∧
      (let s := (atMeterLead { nightSegment with term := .duration, termArg := 98 } running).modCam fun c =>
         { c with phase := .idleOn, power := true }
       let g : Grid := { grid0 with anchor := 938944 }
       s.seq.state = .running ∧ s.seq.stopPending = false ∧ s.seq.prepRegistered = true ∧ s.seq.grid = some g ∧
         s.seq.current = some current0 ∧ s.cam.frame = none ∧ (segmentAt s 0).term = .duration ∧
         terminationTrue s (segmentAt s 0) (takeW0 s.tb (segmentAt s 0) current0.entry) = false ∧
         s.cam.phase = .idleOn ∧ g.nextDue ≤ s.tb.runCounter + max s.params.meterLead (s.params.settingLead + 64) ∧
         s.tb.runCounter + s.params.settingLead < g.nextDue) := by decide +kernel

/-- The hypotheses that the handing clauses share, for a grid whose next due is `due`. -/
def handingAt (p : Phase) (due : Nat) (ready : Bool) : State :=
  (running.modCam fun c => { c with phase := p, ready := ready }).modSeq fun q =>
    { q with grid := some { grid0 with anchor := due - 61440 } }

/-- A handing in COOLDOWN and one from OFF, each with the meter lead reached to the tick and the setting lead one tick ahead. -/
theorem witness_PreparationStartFindsMomentsReached :
    (∀ x ∈ [(Phase.cooldown, (1000384 : Nat)), (.off, 1000257)],
      let s := handingAt x.1 x.2 false
      let g : Grid := { grid0 with anchor := x.2 - 61440 }
      s.seq.state = .running ∧ s.seq.stopPending = false ∧ s.seq.prepRegistered = true ∧ s.seq.grid = some g ∧
        s.seq.current = some current0 ∧ s.cam.frame = none ∧ (segmentAt s 0).term = .forever ∧ s.cam.phase = x.1 ∧
        g.nextDue ≤ s.tb.runCounter + max s.params.meterLead (s.params.settingLead + 64) ∧
        s.tb.runCounter + s.params.settingLead < g.nextDue) := by decide +kernel

/-- A handing with the setting lead reached to the tick, READY low. -/
theorem witness_PreparationStartMissesAtTheSettingLead :
    (let s := handingAt .off 1000256 false
     let g : Grid := { grid0 with anchor := 938816 }
     s.seq.state = .running ∧ s.seq.stopPending = false ∧ s.seq.prepRegistered = true ∧ s.seq.grid = some g ∧
       s.seq.current = some current0 ∧ s.cam.frame = none ∧ (segmentAt s 0).term = .forever ∧ s.cam.phase = .off ∧
       g.nextDue ≤ s.tb.runCounter + s.params.wakeLead ∧ g.nextDue ≤ s.tb.runCounter + s.params.settingLead ∧
       s.cam.ready = false ∧ s.prog.commitPending = false) := by decide +kernel

/-- A handing in COOLDOWN with the setting lead reached, CAMPWR off and READY high. -/
theorem witness_PreparationStartMissesInCooldown :
    let s := handingAt .cooldown 1000256 true
    let g : Grid := { grid0 with anchor := 938816 }
    s.seq.state = .running ∧ s.seq.stopPending = false ∧ s.seq.prepRegistered = true ∧ s.seq.grid = some g ∧
      s.seq.current = some current0 ∧ s.cam.frame = none ∧ (segmentAt s 0).term = .forever ∧ s.cam.phase = .cooldown ∧
      g.nextDue ≤ s.tb.runCounter + max s.params.meterLead (s.params.settingLead + 64) ∧
      g.nextDue ≤ s.tb.runCounter + s.params.settingLead ∧ s.cam.power = false ∧ s.prog.commitPending = false := by
  decide +kernel

/-- A handing with the setting lead reached to the tick or the due time one tick ahead, READY high, by what powers the camera. -/
theorem witness_PreparationStartComputesAtTheSettingLead :
    ∀ x ∈ [(Phase.off, (1000256 : Nat), false), (.idleOn, 1000001, true)],
      let s := (handingAt x.1 x.2.1 true).modCam fun c => { c with power := x.2.2 }
      let g : Grid := { grid0 with anchor := x.2.1 - 61440 }
      s.seq.state = .running ∧ s.seq.stopPending = false ∧ s.seq.prepRegistered = true ∧ s.seq.grid = some g ∧
        s.seq.current = some current0 ∧ s.cam.frame = none ∧ (segmentAt s 0).term = .forever ∧ s.cam.phase = x.1 ∧
        s.cam.power = x.2.2 ∧ s.cam.ready = true ∧ s.tb.runCounter < g.nextDue ∧
        g.nextDue ≤ s.tb.runCounter + max s.params.meterLead (s.params.settingLead + 64) ∧
        g.nextDue ≤ s.tb.runCounter + s.params.settingLead := by decide +kernel

/-- R107, R108: from IDLE_ON with the setting lead reached the frame is computed in the handing event. -/
theorem test_handing_takes_the_computation :
    let t := preparationStart ((handingAt .idleOn 1000200 true).modCam fun c => { c with power := true })
    (t.cam.phase, t.cam.exchange, t.cam.frame.map fun f => (f.number, f.exposure.isSome)) =
      (.setting, .sending, some (3, true)) := by decide +kernel

theorem witness_LightSamplesFollowTheLogTable :
    (2 ^ 11 ≤ (4095 : Code).toNat ∧ (4095 : Code).toNat < 2 ^ 12) ∧ (2 ^ 0 ≤ (1 : Code).toNat ∧ (1 : Code).toNat < 2 ^ 1) ∧
      64 ≤ (64 : Code).toNat ∧ (63 : Code).toNat < 64 ∧ (4095 : Code).toNat = 4095 ∧ (4094 : Code).toNat ≠ 4095 := by decide

/-- A state with a FRAME job of an owner that is over. -/
def frameJob (o : Owner) (s : State) : State :=
  s.modMeter fun m => { m with frame := .running { owner := o, rounding := .down } 999984 2 3 }

theorem witness_FrameJobEndDeliversTheAverage :
    (∃ xs, jobResult .frame 2 3 [0, 1300, 0, 1380, 0, 1250, 0, 1420] = some (.light xs 8)) ∧
      (let f := { frame3 with meteringOpen := true }
       let s := frameJob .frame (inHand .preparing f)
       s.meter.frame = .running { owner := .frame, rounding := .down } 999984 2 3 ∧ 999984 + 2 * 8 ≤ s.tb.runCounter ∧
         s.cam.frame = some f ∧ f.kind = .run ∧ s.cam.phase = .preparing ∧ f.meteringOpen = true) ∧
      (let s := frameJob .seed (running.modSeq fun q => { q with awaitingSeed := true })
       s.meter.frame = .running { owner := .seed, rounding := .down } 999984 2 3 ∧ 999984 + 2 * 8 ≤ s.tb.runCounter ∧
         s.seq.state = .running ∧ s.seq.awaitingSeed = true) ∧
      (let s := frameJob .test running
       s.meter.frame = .running { owner := .test, rounding := .down } 999984 2 3 ∧ s.cam.frame = none) :=
  ⟨⟨_, by rfl⟩, by decide, by decide, by decide⟩

/-- A test shot in hand in IDLE, in a phase; `shot` is the frame. -/
def shot : Frame := { exposed with kind := .test }
def shooting (p : Phase) (f : Frame) : State :=
  awake.modCam fun c => { c with phase := p, frame := some f, power := true, ready := true }

theorem witness_FrameJobEndOfSeedsAndTestShots :
    (let s := frameJob .seed ((seqIn .holding).modSeq fun q => { q with awaitingSeed := true })
     s.meter.frame = .running { owner := .seed, rounding := .down } 999984 2 3 ∧ 999984 + 2 * 8 ≤ s.tb.runCounter ∧
       s.seq.state = .holding ∧ s.seq.awaitingSeed = true) ∧
      (let f := { shot with meteringOpen := true }
       let s := frameJob .test (shooting .preparing f)
       s.meter.frame = .running { owner := .test, rounding := .down } 999984 2 3 ∧ 999984 + 2 * 8 ≤ s.tb.runCounter ∧
         s.cam.frame = some f ∧ f.kind = .test ∧ s.cam.phase = .preparing ∧ f.meteringOpen = true) ∧
      (let s := frameJob .frame (inHand .preparing { frame3 with meteringOpen := false })
       s.meter.frame = .running { owner := .frame, rounding := .down } 999984 2 3 ∧ 999984 + 2 * 8 ≤ s.tb.runCounter ∧
         s.cam.frame = some { frame3 with meteringOpen := false }) ∧
      (let s := frameJob .seed (seqIn .ended)
       s.meter.frame = .running { owner := .seed, rounding := .down } 999984 2 3 ∧ 999984 + 2 * 8 ≤ s.tb.runCounter ∧
         s.seq.state ≠ .running ∧ s.seq.state ≠ .holding) := by decide

theorem witness_VoltageStateFollowsTheTable :
    Params.defaults.vCrit + 100 ≤ Params.defaults.vLow ∧
      (Power.reset.reEvaluate = false ∧ Power.reset.voltage = .normal) ∧
      (∀ below ∈ [false, true],
        let q := { Power.reset with voltage := .low, belowCritical := below }
        q.reEvaluate = false ∧ q.voltage = .low ∧ q.belowCritical = below) ∧
      (let q := { Power.reset with voltage := .critical }
       q.reEvaluate = false ∧ q.voltage = .critical) ∧
      ({ Power.reset with reEvaluate := true } : Power).reEvaluate = true := by decide

/-- A battery job over, with a voltage state and a below-critical mark. -/
def batteryOver (v : Voltage) (below : Bool) (s : State) : State :=
  (s.modMeter fun m => { m with battery := .running { owner := .power, rounding := .down } 999998 2 0 }).modPow fun p =>
    { p with voltage := v, belowCritical := below }

/-- The hypotheses that all BATTERY clauses share, and the voltage state that a code leaves. -/
def batteryCase (v : Voltage) (below : Bool) (code : Code) (w : Voltage) (s : State) : Bool :=
  let t := batteryOver v below s
  decide (isRunning t.meter.frame = false ∧ 999998 + 2 ≤ t.tb.runCounter ∧
    t.meter.battery = .running { owner := .power, rounding := .down } 999998 2 0 ∧ t.pow.voltage = v ∧
    (nextVoltage t.params t.pow (code.toNat * 4)).1 = w)

theorem witness_PowerJobEndsDeliverTheirSamples :
    batteryCase .low true 2750 .low awake = true ∧ batteryCase .low false 2975 .normal awake = true ∧ batteryCase .normal false 2899 .low awake = true ∧
      (batteryCase .low true 2749 .critical awake = true ∧ awake.seq.state = .idle) ∧
      (batteryCase .low true 2749 .critical running = true ∧ running.seq.state = .running ∧
        running.seq.stopPending = false) ∧
      (batteryCase .low true 2749 .critical (parked held0) = true ∧ (parked held0).seq.hold = some held0 ∧
        (parked held0).seq.state = .hold) ∧
      (batteryCase .critical false 2825 .low awake = true ∧ awake.seq.hold = none) ∧
      (batteryCase .critical false 2825 .low (parked held0) = true ∧ (parked held0).seq.hold = some held0) ∧
      (let s := awake.modMeter fun m => { m with solar := .running { owner := .power, rounding := .down } 999998 2 0 }
       isRunning s.meter.frame = false ∧ 999998 + 2 ≤ s.tb.runCounter ∧ isRunning s.meter.battery = false ∧
         isRunning s.meter.temperature = false ∧
         s.meter.solar = .running { owner := .power, rounding := .down } 999998 2 0) ∧
      (let s := awake.modMeter fun m =>
         { m with temperature := .running { owner := .power, rounding := .down } 999998 2 0 }
       isRunning s.meter.frame = false ∧ 999998 + 2 ≤ s.tb.runCounter ∧ isRunning s.meter.battery = false ∧
         s.meter.temperature = .running { owner := .power, rounding := .down } 999998 2 0) ∧
      awake.seq.state ≠ .hold := by decide +kernel

theorem witness_MomentsBeforeTheExposureAreTaken :
    (let f := { frame3 with meterAt := some 1000000 }
     let s := inHand .waking f
     s.cam.frame = some f ∧ 1000000 ≤ s.tb.runCounter ∧ s.cam.phase = .waking ∧ f.meterAt = some 1000000) ∧
      (let f := { exposed with focusAt := some 1000000 }
       let s := inHand .setting f
       s.cam.frame = some f ∧ 1000000 ≤ s.tb.runCounter ∧ s.cam.phase = .setting ∧ f.focusAt = some 1000000 ∧
         s.cam.exchange ≠ .awaiting) ∧
      (∀ x ∈ [ExchangeState.sending, .awaiting],
        let s := (inHand .setting exposed).modCam fun c => { c with exchange := x }
        s.cam.frame = some exposed ∧ s.cam.exchange = x ∧ s.cam.assembling = false) := by decide +kernel

theorem witness_SettingLeadMissesOrComputesTheFrame :
    (∀ m ∈ [none, some { value := 63, dark := false, late := false }], ∀ ready ∈ [false, true], ∀ link ∈ [0, 1],
        let f := { frame3 with settingAt := some 1000000, metered := m }
        let s := ((inHand .preparing f).modCam fun c => { c with ready := ready }).modParams fun p =>
          { p with linkPresent := link }
        s.cam.frame = some f ∧ f.kind = .run ∧ s.cam.phase = .preparing ∧ f.settingAt = some 1000000 ∧
          1000000 ≤ s.tb.runCounter ∧ f.metered = m ∧ s.cam.power = true ∧ s.cam.ready = ready ∧
          s.prog.commitPending = false ∧ f.exposure = none ∧ s.params.linkPresent = link) ∧
      running.seq.current = some current0 := by decide +kernel

/-- A test shot at its setting lead: metered or not, ready or not, with the link and without. -/
theorem witness_SettingLeadOfATestShot :
    ∀ m ∈ [none, some { value := 63, dark := false, late := false }], ∀ ready ∈ [false, true], ∀ link ∈ [0, 1],
      let f := { frame3 with kind := .test, settingAt := some 1000000, metered := m }
      let s := ((shooting .preparing f).modCam fun c => { c with ready := ready }).modParams fun p =>
        { p with linkPresent := link }
      s.cam.frame = some f ∧ f.kind = .test ∧ s.cam.phase = .preparing ∧ f.settingAt = some 1000000 ∧
        1000000 ≤ s.tb.runCounter ∧ f.metered = m ∧ s.cam.power = true ∧ s.cam.ready = ready ∧ f.exposure = none ∧
        s.seq.state ≠ .running ∧ s.params.linkPresent = link := by decide +kernel

/-- R122: a test shot whose camera is not ready is recorded as MISSED, with TEST_DONE and no fault. -/
theorem test_test_shot_misses :
    let t := after .settingLead ((shooting .preparing { frame3 with kind := .test, settingAt := some 1000000 }).modCam
      fun c => { c with ready := false })
    (t.cam.testRecord.outcome, t.cam.faultCount, t.line.alerts, t.log.records) = (some .missed, 0, 0x0800, []) := by
  decide +kernel

theorem witness_ReplyRecordClosesTheExchange :
    (∀ set ∈ [none, some { mode := .bulb, shutter := 0, gain := 10 }, some { mode := .timed, shutter := -45, gain := 0 }],
      ∀ e ∈ [nightExposure 110, timed],
        let f := { exposed with exposure := some e }
        let s := (inHand .setting f).modCam fun c =>
          { c with exchange := .awaiting, assembling := true, settings := set }
        s.cam.frame = some f ∧ f.kind = .run ∧ f.exposure = some e ∧ s.cam.exchange = .awaiting ∧
          s.cam.assembling = true ∧ s.cam.settings = set) ∧
      (let s := (shooting .setting shot).modCam fun c => { c with exchange := .awaiting, assembling := true }
       s.cam.frame = some shot ∧ shot.kind = .test ∧ shot.exposure = some (nightExposure 110) ∧
         s.cam.exchange = .awaiting ∧ s.cam.assembling = true) ∧
      (0xA9 + 0x01 + 0x02 + 0x00 + 0x0A + 0x4A : Byte) = 0 ∧ (0xA9 + 0x01 + 0x01 + 0xD3 + 0x00 + 0x82 : Byte) = 0 ∧
      (0xA9 + 0x01 + 0x01 + 0x00 + 0x0A + 0x4B : Byte) = 0 ∧ (0xA9 + 0x01 + 0x02 + 0xD3 + 0x00 + 0x81 : Byte) = 0 ∧
      (0xA9 + 0x01 + 0x01 + 0x00 + 0x0A + 0x4A : Byte) ≠ 0 ∧ (nightExposure 110).mode = .bulb ∧ timed.mode = .timed ∧
      (nightExposure 110).dLo ≤ (nightExposure 110).dCap := by decide +kernel

theorem witness_DueTimeOpensAndTheHoldEndsTheExposure :
    (let s := (inHand .setting exposed).modCam fun c => { c with exchange := .sending, replyWindowAt := some 1000000 }
     s.cam.frame = some exposed ∧ exposed.exposure = some (nightExposure 110) ∧ 1000000 ≤ s.tb.runCounter ∧
       s.cam.exchange = .sending ∧ s.cam.replyWindowAt = some 1000000 ∧ s.cam.phase = .setting ∧
       exposed.dueAt = some 1000000) ∧
      (let s := inHand .waitDue exposed
       s.cam.frame = some exposed ∧ s.cam.phase = .waitDue ∧ s.cam.exchange = .idle) ∧
      (let s := (inHand .exposing exposed).modCam fun c => { c with shutterAt := some 1000000 }
       s.cam.frame = some exposed ∧ s.cam.phase = .exposing ∧ s.cam.shutterAt = some 1000000) := by
  decide +kernel

/-- `running` with a frame in WRITING, at a stage, with its sync window's end and READY. -/
def writingOf (f : Frame) (st : WriteStage) (w : Option Nat) (ready : Bool) : State :=
  (inHand .writing f).modCam fun c =>
    { c with stage := st, writeTimeoutAt := some 1000000, syncWindowAt := w, ready := ready }

/-- `running` with its frame in WRITING, at a stage. -/
def writing (st : WriteStage) : State := writingOf exposed st none true

/-- The frame with a window that has seen no closure. -/
def windowed : Frame := { exposed with hasWindow := true }

theorem witness_WritingEndsInTheFramesOutcome :
    (let s := writing (.dropWatch 1000000)
     s.cam.frame = some exposed ∧ exposed.kind = .run ∧ s.cam.phase = .writing ∧ s.cam.ready = true ∧
       s.cam.stage = .dropWatch 1000000 ∧ 1000000 ≤ s.tb.runCounter ∧ s.cam.syncWindowAt = none ∧
       s.cam.stage ≠ .complete ∧ s.prog.commitPending = false) ∧
      (let s := writingOf windowed (.dropWatch 1000000) (some 1000000) true
       s.cam.frame = some windowed ∧ windowed.kind = .run ∧ s.cam.phase = .writing ∧ s.cam.stage ≠ .complete ∧
         s.cam.syncWindowAt = some 1000000 ∧ 1000000 ≤ s.tb.runCounter ∧ windowed.hasWindow = true ∧
         windowed.syncSeen = false ∧ s.cam.stage = .dropWatch 1000000) ∧
      (let s := writingOf windowed .inProgress (some 1000000) false
       s.cam.frame = some windowed ∧ s.cam.syncWindowAt = some 1000000 ∧ s.cam.ready = false ∧
         s.cam.stage = .inProgress) ∧
      (let s := writingOf exposed .inProgress none false
       s.cam.frame = some exposed ∧ s.cam.syncWindowAt = none ∧ s.cam.ready = false ∧ s.cam.stage = .inProgress ∧
         s.prog.commitPending = false) ∧
      (let s := writingOf windowed .complete (some 1000000) true
       s.cam.frame = some windowed ∧ s.cam.phase = .writing ∧ s.cam.stage = .complete ∧
         s.cam.syncWindowAt = some 1000000 ∧ 1000000 ≤ s.tb.runCounter) := by decide +kernel

/-- A test shot in WRITING, by what completes it: the drop watch, READY rising, a closure or the window's expiry. -/
theorem witness_WritingEndsForATestShot :
    (∀ x ∈ [(WriteStage.dropWatch 1000000, (none : Option Nat), true), (.inProgress, none, false),
        (.complete, some 1000000, true)],
      let s := (shooting .writing shot).modCam fun c =>
        { c with stage := x.1, syncWindowAt := x.2.1, ready := x.2.2, writeTimeoutAt := some 1000000 }
      s.cam.frame = some shot ∧ shot.kind = .test ∧ s.cam.phase = .writing ∧ s.seq.state ≠ .running ∧
        s.cam.stage = x.1 ∧ s.cam.syncWindowAt = x.2.1 ∧ s.cam.ready = x.2.2 ∧ 1000000 ≤ s.tb.runCounter ∧
        s.cam.writeTimeoutAt = some 1000000) := by decide +kernel

/-- The report of a frame that ends TAKEN, with a fresh light average of 63, at the fault limit or not. -/
def reportOf (limit : Bool) : Report :=
  { outcome := .taken, cause := .none, frame := { exposed with metered := some { value := 63, dark := false, late := false } }
    value := 57552, faultLimit := limit, byStop := false }

theorem witness_WritingEndsAtTheFrameBoundary :
    (∀ q ∈ [SeqState.running, .holding], ∀ stop ∈ [false, true], ∀ pend ∈ [false, true],
        let s := (running.modSeq fun r => { r with state := q, stopPending := stop, hold := some held0 }).modProg fun p =>
          { p with commitPending := pend }
        s.seq.current = some current0 ∧ s.seq.state = q ∧ s.seq.stopPending = stop ∧ s.prog.commitPending = pend ∧
          s.seq.hold = some held0 ∧ s.seq.ending = false) ∧
      held0.heldFrom = .running ∧ (reportOf true).byStop = false ∧ (reportOf true).faultLimit = true ∧
      (reportOf false).frame.metered = some { value := 63, dark := false, late := false } ∧
      (∀ x ∈ [((64 : Word), TermKind.lightBelow), (63, .lightAbove), (3, .frames)],
        (segmentAt (walkingOn { nightSegment with term := x.2, termArg := x.1 } 0) 0).term = x.2) ∧
      (awake.cam.phase ≠ .idleOn ∧ awake.pow.remainder < 1024000) := by decide +kernel

theorem witness_WriteTimeoutCoolsTheCameraDown :
    (let s := writing .inProgress
     s.cam.phase = .writing ∧ s.cam.writeTimeoutAt = some 1000000 ∧ 1000000 ≤ s.tb.runCounter ∧
       s.cam.frame = some exposed ∧ exposed.kind = .run ∧ exposed.exposure ≠ none ∧ s.prog.commitPending = false) ∧
      (let s := (writing (.dropWatch 1000000)).modCam fun c => { c with frame := none, drain := true }
       s.cam.frame = none ∧ s.cam.drain = true ∧ s.cam.phase = .writing ∧ s.cam.writeTimeoutAt = some 1000000 ∧
         s.cam.stage = .dropWatch 1000000) ∧
      (let s := (writingOf exposed .inProgress none false).modCam fun c => { c with frame := none, drain := true }
       s.cam.frame = none ∧ s.cam.drain = true ∧ s.cam.phase = .writing ∧ s.cam.ready = false ∧
         s.cam.stage = .inProgress) ∧
      (let s := awake.modCam fun c => { c with phase := .cooldown, cooldownEnd := some 1000000 }
       s.cam.cooldownEnd = some 1000000 ∧ s.cam.phase = .cooldown) ∧
      (let s := (inHand .waking frame3).modCam fun c => { c with cooldownEnd := some 1000000, power := false }
       s.cam.cooldownEnd = some 1000000 ∧ s.cam.phase = .waking) := by
  decide +kernel

/-- HOLD for POWER, with the recovery timer's start. -/
def recovering (start : Option Nat) (h : HoldData) : State := (parked h).modPow fun p => { p with recovery := start }

theorem witness_RecoveryTimerOffersAutoResume :
    (let h : HoldData := { held0 with cause := .power, hostRequested := false }
     (∀ start ∈ [some 385600, some 385601, none],
       (recovering start h).pow.recovery = start ∧ (recovering start h).seq.state = .hold ∧
         (recovering start h).seq.hold = some h) ∧
       385600 + 614400 ≤ (recovering none h).tb.runCounter ∧ (recovering none h).tb.runCounter < 385601 + 614400 ∧
       (recovering none h).params.autoResume = 1 ∧ h.cause = .power ∧ h.hostRequested = false ∧
       (recovering none h).params.vCrit + (recovering none h).params.hysteresis ≤ 11300 ∧
       11299 < (recovering none h).params.vCrit + (recovering none h).params.hysteresis) ∧
      (let s := recovering (some 385600) held0
       s.pow.recovery = some 385600 ∧ s.seq.state = .hold ∧ s.seq.hold = some held0 ∧
         385600 + 614400 ≤ s.tb.runCounter ∧ held0.hostRequested = true ∧ held0.cause ≠ .power) := by decide

theorem witness_PowerComparesAreServed :
    (awake.modTb fun t => { t with runCounter := 1048576 }).pow.periodicAt ≤ 1048576 ∧
      (let s := running.modPow fun p =>
         { p with
           eligible := true, temperatureAt := some 1000000, heatPeriodAt := some 999424, heatOffAt := some 1000000 }
       s.pow.eligible = true ∧ s.pow.temperatureAt = some 1000000 ∧ s.pow.heatPeriodAt = some 999424 ∧
         s.pow.heatOffAt = some 1000000 ∧ 1000000 ≤ s.tb.runCounter ∧ 999424 ≤ s.tb.runCounter ∧ s.pow.heat ≠ true) := by
  decide

theorem witness_HeaterDutyIsExactOverEightPeriods : (255 : Nat) < 256 ∧ onSlots 255 0 = 32 := by decide

theorem witness_ExposureArithmeticKeepsItsBounds :
    SegmentLaw nightSegment ∧ 2048 + 1024 ≤ 61440 ∧ nightSegment.mode = .ramp ∧ (0 : Int) < 1 ∧ 15 < 16 := by
  unfold SegmentLaw; decide

/-- R74, R78, R80: the night frame of section 5.9 is within its bounds; a dark, late frame of a stretched grid is flagged so. -/
theorem test_computation_flags :
    let i : ComputeInput :=
      { seg := nightSegment, f := -16 * 200, ePrev := some 100, fraction := none, iEff := 61440, k := 0, overhead := 2048
        bulbThreshold := -32, link := true }
    (computeFlags i { value := 0, dark := false, late := false } 1,
      computeFlags i { value := 0, dark := true, late := true } 2) = (0x0004, 0x021C) := by decide +kernel

/-- Every slot is empty after reset. -/
theorem storeLaw_reset : StoreLaw State.reset := by
  intro n i g h
  have e : ∀ i, slotOf Bank.empty i = none := by
    intro i
    by_cases hi : i < 24
    · interval_cases i <;> rfl
    · simp [slotOf, Vector.getElem?_eq_none (Nat.le_of_not_lt hi)]
  cases n <;> exact absurd (h.symm.trans (e i)) nofun

/-- The reset state meets the laws that every step keeps. -/
theorem witness_EveryStepKeepsTheLaws :
    LogLaw State.reset ∧ PowerInv State.reset ∧ StoredInv State.reset ∧ CameraInv State.reset := by
  refine ⟨?_, ⟨?_, ?_, ?_⟩, ⟨?_, storeLaw_reset, ?_, ?_⟩, ⟨rfl, rfl, rfl⟩, ?_, ?_, ?_⟩
  · unfold LogLaw; decide
  · unfold AccountLaw; decide
  · unfold LevelLaw; decide
  · unfold HeaterLaw; decide
  · unfold ParamLaw; decide
  · unfold AttentionLaw; decide
  · unfold SlotLaw; decide
  · unfold ShutterLaw; decide
  · unfold HandLaw; decide
  · unfold SeedLaw; decide

end Sys2Proof.Tests
end

section
/-! PROOFS. What forming the levels and switching the camera change, block by block (R46, R102, R153, R158 to R160). -/

namespace Sys2Proof.Machine

/-! ## Frames in hand -/

theorem frameInFlight_iff (s : State) : frameInFlight s = true ↔ ∃ f, s.cam.frame = some f ∧ f.kind = .run := by
  unfold frameInFlight
  split <;> simp_all

theorem testInFlight_iff (s : State) : testInFlight s = true ↔ ∃ f, s.cam.frame = some f ∧ f.kind = .test := by
  unfold testInFlight
  split <;> simp_all

theorem frameInFlight_of_none {s : State} (h : s.cam.frame = none) : frameInFlight s = false := by
  rw [frameInFlight, h]

/-! ## The levels -/

/-- R46, R158 to R160: what the levels, formed with no camera kept on, move: the two levels, and in RUNNING the grid and the mark
of a stretch change, of which a frame in flight lets only the mark move. -/
def LevelsMoved (s t : State) : Prop :=
  ∃ g b cl bl,
    t = { s with
          seq := { s.seq with grid := g, stretchPending := b }
          pow := { s.pow with chargeLevel := cl, budgetLevel := bl } } ∧
    (s.seq.state ≠ .running → g = s.seq.grid ∧ b = s.seq.stretchPending) ∧
    (frameInFlight s = true → g = s.seq.grid)

theorem LevelsMoved.trans {s t u : State} (h : LevelsMoved s t) (k : LevelsMoved t u) : LevelsMoved s u := by
  obtain ⟨g, b, cl, bl, rfl, hs, hf⟩ := h
  obtain ⟨g', b', cl', bl', rfl, ks, kf⟩ := k
  refine ⟨g', b', cl', bl', rfl, fun n => ?_, fun n => (kf n).trans (hf n)⟩
  obtain ⟨hg, hb⟩ := hs n
  obtain ⟨kg, kb⟩ := ks n
  exact ⟨kg.trans hg, kb.trans hb⟩

/-- R46: the grid laid again. -/
theorem reanchor_seq (s : State) :
    ∃ g b, reanchor s = { s with seq := { s.seq with grid := g, stretchPending := b } } := by
  unfold reanchor
  split
  · exact ⟨s.seq.grid, s.seq.stretchPending, rfl⟩
  · exact ⟨_, _, rfl⟩

/-- R46: a stretch change reaches the sequencer's grid, or with a frame in flight its mark, in RUNNING alone. -/
theorem stretchChanged_moved (s : State) : LevelsMoved s (stretchChanged s) := by
  unfold stretchChanged
  split
  case isTrue run =>
    split
    case isTrue => exact ⟨_, _, _, _, rfl, fun n => absurd run.1 n, fun _ => rfl⟩
    case isFalse free =>
      obtain ⟨g, b, h⟩ := reanchor_seq s
      exact ⟨g, b, _, _, h, fun n => absurd run.1 n, fun f => absurd f free⟩
  case isFalse => exact ⟨_, _, _, _, rfl, fun _ => ⟨rfl, rfl⟩, fun _ => rfl⟩

theorem keepOnOff_of_not_idleOn {s : State} (h : s.cam.phase ≠ .idleOn) : keepOnOff s = s :=
  if_neg fun k => h k.1

/-- R158, R159: the two levels formed, before the sequencer hears of them. -/
def levelled (s : State) : State :=
  s.modPow fun p =>
    { p with
      chargeLevel := nextChargeLevel s.pow.chargeLevel (perMille s)
      budgetLevel := budgetOf p.voltage (nextChargeLevel s.pow.chargeLevel (perMille s)) }

theorem formLevels_eq (s : State) :
    formLevels s = keepOnOff (if stretch (levelled s) = stretch s then levelled s else stretchChanged (levelled s)) := rfl

theorem formLevels_moved {s : State} (h : s.cam.phase ≠ .idleOn) : LevelsMoved s (formLevels s) := by
  have levels : LevelsMoved s (levelled s) := ⟨_, _, _, _, rfl, fun _ => ⟨rfl, rfl⟩, fun _ => rfl⟩
  rw [formLevels_eq]
  split
  case isTrue => rwa [keepOnOff_of_not_idleOn (s := levelled s) h]
  case isFalse =>
    have moved := levels.trans (stretchChanged_moved (levelled s))
    rwa [keepOnOff_of_not_idleOn]
    obtain ⟨_, _, _, _, e, -⟩ := moved
    rw [e]
    exact h

theorem LevelsMoved.cam {s t : State} (h : LevelsMoved s t) : t.cam = s.cam := by
  obtain ⟨_, _, _, _, rfl, -⟩ := h
  rfl

theorem settleLevels_moved {s : State} (h : s.cam.phase ≠ .idleOn) : LevelsMoved s (settleLevels s) :=
  (formLevels_moved h).trans (formLevels_moved ((formLevels_moved h).cam ▸ h))

theorem accrual_moved {s : State} (h : s.cam.phase ≠ .idleOn) : LevelsMoved (accrue s) (accrual s) :=
  settleLevels_moved (s := accrue s) h

/-- R102: setting CAMPWR, unless the camera is kept on, sets it and moves what an accrual moves; the grid stands while a frame is
in flight, and the sequencer outside RUNNING. -/
theorem setCamPower_moved (on : Bool) {s : State} (h : s.cam.phase ≠ .idleOn) :
    ∃ g b p, setCamPower on s =
        { s with
          seq := { s.seq with grid := g, stretchPending := b }
          cam := { s.cam with power := on }, pow := p } ∧
      (s.seq.state ≠ .running → g = s.seq.grid ∧ b = s.seq.stretchPending) ∧ (frameInFlight s = true → g = s.seq.grid) := by
  unfold setCamPower
  split
  case isTrue same => exact ⟨_, _, _, by rw [← same], fun _ => ⟨rfl, rfl⟩, fun _ => rfl⟩
  case isFalse =>
    obtain ⟨g, b, cl, bl, e, parked, flight⟩ := accrual_moved (s := s.modCam fun c => { c with power := on }) h
    exact ⟨g, b, _, e, parked, flight⟩

/-- Outside RUNNING, setting CAMPWR changes nothing of the sequencer. -/
theorem setCamPower_parked (on : Bool) {s : State} (h : s.cam.phase ≠ .idleOn) (r : s.seq.state ≠ .running) :
    ∃ p, setCamPower on s = { s with cam := { s.cam with power := on }, pow := p } := by
  obtain ⟨g, b, p, e, parked, -⟩ := setCamPower_moved on h
  obtain ⟨rfl, rfl⟩ := parked r
  exact ⟨p, e⟩

end Sys2Proof.Machine
end

section
/-! PROOFS. The camera laws as laws of what the camera has in hand: the few fields they speak of, and what the operations of the
sequencer and the camera make of them (R102, R105, R117 to R121). -/

namespace Sys2Proof.Machine

/-! ## What is in hand -/

/-- What the camera laws speak of. -/
structure Hand where
  state : SeqState
  seed : Bool
  prep : Bool
  phase : Phase
  frame : Option FrameKind
  drain : Bool
  power : Bool
  shut : Bool
  focus : Bool
  exchange : ExchangeState
  commit : Bool

def handOf (s : State) : Hand :=
  { state := s.seq.state, seed := s.seq.awaitingSeed, prep := s.seq.prepRegistered, phase := s.cam.phase
    frame := s.cam.frame.map fun f => f.kind, drain := s.cam.drain, power := s.cam.power, shut := s.cam.shut
    focus := s.cam.focus, exchange := s.cam.exchange, commit := s.prog.commitPending }

/-- `CameraInv` without its keep-on clause, which holds between events alone. -/
def Hand.Law (h : Hand) : Prop :=
  (match h.phase with
    | .off | .cooldown => h.power = false ∧ h.frame = none ∧ h.drain = false
    | .idleOn => h.power = true ∧ h.frame = none ∧ h.drain = false
    | .waking | .preparing => h.frame.isSome = true ∧ h.drain = false
    | .setting | .waitDue | .exposing => h.power = true ∧ h.frame.isSome = true ∧ h.drain = false
    | .writing => h.power = true ∧ h.drain = h.frame.isNone) ∧
  (h.shut = true → h.power = true ∧ h.phase = .exposing) ∧
  (h.focus = true → h.power = true ∧ (h.phase = .setting ∨ h.phase = .waitDue ∨ h.phase = .exposing)) ∧
  (h.frame = some .run → h.state = .running ∨ h.state = .holding) ∧
  (h.frame = some .test → h.state = .idle ∨ h.state = .ended) ∧
  (h.drain = true → h.state = .holding) ∧
  (h.commit = true → h.frame = some .run) ∧
  (h.exchange ≠ .idle → h.phase = .setting) ∧
  (h.seed = true → (h.state = .running ∨ h.state = .holding) ∧ h.frame = none ∧ h.prep = false) ∧
  (h.state = .armed → h.prep = false)

def HandInv (s : State) : Prop := (handOf s).Law

/-- R117: a camera kept on is kept on by the conditions of R116. -/
def KeepOnLaw (s : State) : Prop := s.cam.phase = .idleOn → keepOnHolds s = true

theorem handOf_frame_run (s : State) : (handOf s).frame = some .run ↔ frameInFlight s = true := by
  rw [frameInFlight_iff]
  simp [handOf]

theorem handOf_frame_test (s : State) : (handOf s).frame = some .test ↔ testInFlight s = true := by
  rw [testInFlight_iff]
  simp [handOf]

theorem cameraInv_iff (s : State) : CameraInv s ↔ HandInv s ∧ KeepOnLaw s := by
  unfold CameraInv PhaseLaw ShutterLaw HandLaw SeedLaw HandInv KeepOnLaw Hand.Law
  rw [handOf_frame_run, handOf_frame_test]
  simp only [handOf, Option.isSome_map, Option.isNone_map, Option.map_eq_none_iff]
  constructor
  · rintro ⟨phase, ⟨shut, focus⟩, ⟨run, test, drain, commit, exchange, keepOn⟩, seed, armed⟩
    exact ⟨⟨phase, shut, focus, run, test, drain, commit, exchange, seed, armed⟩, keepOn⟩
  · rintro ⟨⟨phase, shut, focus, run, test, drain, commit, exchange, seed, armed⟩, keepOn⟩
    exact ⟨phase, ⟨shut, focus⟩, ⟨run, test, drain, commit, exchange, keepOn⟩, seed, armed⟩

/-- R102, R121: the second law of the camera lines follows from the others. -/
theorem parkedLaw_of_cameraInv {s : State} (l : CameraInv s) : ParkedLaw s := by
  obtain ⟨hand, keepOn⟩ := (cameraInv_iff s).mp l
  have running : s.cam.phase = .idleOn → s.seq.state = .running := fun p => by
    have k := keepOn p
    simp only [keepOnHolds, Bool.and_eq_true, decide_eq_true_eq] at k
    exact k.1.1.1
  unfold ParkedLaw
  rw [← handOf_frame_test]
  change ((handOf s).phase = .idleOn → (handOf s).state = .running) at running
  change ((handOf s).state = _ → (handOf s).power = _) ∧ ((handOf s).state = _ ∨ (handOf s).state = _ → (handOf s).power = _ → _)
  unfold HandInv at hand
  generalize handOf s = h at *
  obtain ⟨state, seed, prep, phase, frame, drain, power, shut, focus, exchange, commit⟩ := h
  have kinds : frame = none ∨ frame = some .run ∨ frame = some .test := by
    rcases frame with _ | _ | _ <;> simp
  rcases kinds with rfl | rfl | rfl <;> cases phase <;> simp_all [Hand.Law] <;> grind

end Sys2Proof.Machine
end

section
/-! PROOFS. The frame boundary, cancel and cut, said once each: which blocks they change, and to what (R18, R37, R118, R119,
R170). -/

namespace Sys2Proof.Machine

/-! ## The frame boundary's first steps -/

/-- R15, R18: the store with a pending commit resolved. -/
def resolved (p : ProgramStore) : ProgramStore :=
  if p.commitPending then { p with active := otherBank p.active, commitPending := false } else p

/-- R18: the resume point with a pending commit resolved, in HOLDING. -/
def resolvedHold (s : State) : Option HoldData :=
  if s.prog.commitPending = true ∧ s.seq.state = .holding then s.seq.hold.map resumeAtZero else s.seq.hold

/-- R37 steps 1 and 2: the current segment's entry record after a boundary's count and debounce. -/
def bookedEntry (r : Report) (s : State) (c : Current) : Entry :=
  if s.seq.state = .running ∧ s.seq.stopPending = false ∧ r.byStop = false then
    debounceUpdate (segmentAt s c.slot) (freshAverage r.frame) (countFrame r.outcome c.entry)
  else countFrame r.outcome c.entry

/-- The current segment with that record. -/
def bookedCurrent (r : Report) (s : State) : Option Current :=
  s.seq.current.map fun c => { slot := c.slot, entry := bookedEntry r s c }

theorem resolved_of_pending {p : ProgramStore} (h : p.commitPending = true) :
    resolved p = { p with active := otherBank p.active, commitPending := false } := if_pos h

theorem resolved_of_not_pending {p : ProgramStore} (h : p.commitPending = false) : resolved p = p :=
  if_neg (by simp [h])

@[simp] theorem resolved_commitPending (p : ProgramStore) : (resolved p).commitPending = false := by
  cases h : p.commitPending
  case false => rw [resolved_of_not_pending h, h]
  case true => rw [resolved_of_pending h]

/-- R15, R18: a pending commit resolved reaches the store, the resume point and the alert set. -/
theorem resolveCommit_eq (s : State) :
    resolveCommit s =
      { s with
        prog := resolved s.prog
        seq := { s.seq with hold := resolvedHold s }
        line := { s.line with
                  alerts := if s.prog.commitPending then s.line.alerts ||| Alert.commitDone.bit else s.line.alerts } } := by
  unfold resolveCommit resolved resolvedHold
  cases s.prog.commitPending
  case false => simp
  case true => by_cases h : s.seq.state = .holding <;> simp [h, raiseAlert, swapBanks, State.modSeq, State.modProg, State.modLine]

/-- R177: the alert set after a log write. -/
def loggedAlerts (r : LogRecord) (s : State) : Half :=
  s.line.alerts ||| flagIf (decide (s.params.logSize ≤ s.log.records.length)) Alert.logOverwrite.bit |||
    flagIf (decide (nearFullMark s.params.logSize ≤ (storeRecord s.params.logSize r s.log).records.length))
      Alert.logNearFull.bit

/-- R176, R177: a write stores the record and raises the log's alerts. -/
theorem logWrite_eq (r : LogRecord) (s : State) :
    logWrite r s =
      { s with
        log := storeRecord s.params.logSize r s.log
        line := { s.line with alerts := loggedAlerts r s } } := by
  unfold logWrite loggedAlerts
  by_cases full : s.params.logSize ≤ s.log.records.length <;>
    by_cases near : nearFullMark s.params.logSize ≤ (storeRecord s.params.logSize r s.log).records.length <;>
      simp [full, near, flagIf, raiseAlert, State.modLog, State.modLine]

/-- The log record of a frame's boundary (R170). -/
def bookedRecord (r : Report) (s : State) : LogRecord := frameRecord s r.outcome r.cause r.frame r.value

/-- The alert set after a boundary's first three steps (R18, R177). -/
def bookedAlerts (r : Report) (s : State) : Half :=
  if s.prog.commitPending then loggedAlerts (bookedRecord r s) s ||| Alert.commitDone.bit
  else loggedAlerts (bookedRecord r s) s

/-- R37, R170: the first two steps of a boundary reach the current entry record, the log and the alert set. -/
theorem bookFrame_eq (r : Report) (s : State) :
    bookFrame r s =
      { s with
        seq := { s.seq with current := bookedCurrent r s }
        log := storeRecord s.params.logSize (bookedRecord r s) s.log
        line := { s.line with alerts := loggedAlerts (bookedRecord r s) s } } := by
  let booked := { s with seq := { s.seq with current := bookedCurrent r s } }
  suffices h : bookFrame r s = logWrite (frameRecord booked r.outcome r.cause r.frame r.value) booked from
    h.trans (logWrite_eq _ booked)
  unfold bookFrame
  cases hc : s.seq.current with
  | none => simp [booked, bookedCurrent, hc, modEntry, State.modSeq]
  | some c =>
    by_cases run : s.seq.state = .running ∧ s.seq.stopPending = false ∧ r.byStop = false <;>
      simp [booked, bookedCurrent, bookedEntry, hc, modEntry, State.modSeq, run, segmentAt]

/-- R18, R37, R170: the boundary up to its third step. -/
theorem boundaryBook_eq (r : Report) (s : State) :
    boundaryBook r s =
      { s with
        prog := resolved s.prog
        seq := { s.seq with current := bookedCurrent r s, hold := resolvedHold s }
        log := storeRecord s.params.logSize (bookedRecord r s) s.log
        line := { s.line with alerts := bookedAlerts r s } } := by
  rw [boundaryBook, bookFrame_eq, resolveCommit_eq]
  rfl

/-! ## Cancel and cut -/

theorem unpoweredPhase_off_or_cooldown (c : Camera) : unpoweredPhase c = .off ∨ unpoweredPhase c = .cooldown := by
  unfold unpoweredPhase
  split <;> simp

theorem unpoweredPhase_eq (c : Camera) : unpoweredPhase c = if c.cooldownEnd = none then .off else .cooldown := by
  unfold unpoweredPhase
  cases c.cooldownEnd <;> rfl

theorem unpoweredPhase_ne_idleOn (c : Camera) : unpoweredPhase c ≠ .idleOn := by
  rcases unpoweredPhase_off_or_cooldown c with h | h <;> rw [h] <;> nofun

/-- R118: the camera that a cancel leaves, with nothing in hand. -/
def cancelled (c : Camera) : Camera :=
  { idleExchange c with focus := false, phase := unpoweredPhase c, power := false, frame := none }

/-- What a cancel reports to the sequencer (R118). -/
def cancelReport (cause : RecordCause) (f : Frame) : Report :=
  { outcome := .aborted, cause := cause, frame := f, value := 0, faultLimit := false, byStop := decide (cause = .stop) }

/-- R118: the cancel of a frame: the camera with nothing in hand, and the boundary of an ABORTED frame up to its third step. -/
theorem cancelFrame_eq (cause : RecordCause) {f : Frame} {s : State} (h : s.cam.frame = some f) :
    ∃ g b p, cancelFrame cause s =
        boundaryBook (cancelReport cause f)
          { s with seq := { s.seq with grid := g, stretchPending := b }, cam := cancelled s.cam, pow := p } ∧
      (s.seq.state ≠ .running → g = s.seq.grid ∧ b = s.seq.stretchPending) ∧ (frameInFlight s = true → g = s.seq.grid) := by
  obtain ⟨g, b, p, e, parked, flight⟩ := setCamPower_moved false
    (s := s.modCam fun c => { idleExchange c with focus := false, phase := unpoweredPhase c })
    (unpoweredPhase_ne_idleOn s.cam)
  refine ⟨g, b, p, ?_, parked, flight⟩
  unfold cancelFrame cancelCamera
  rw [h, e]
  rfl

/-- R117, R118: with nothing in hand a demand finds at most a camera kept on, and switches it off. -/
theorem cancelFrame_of_idleOn (cause : RecordCause) {s : State} (h : s.cam.frame = none) (p : s.cam.phase = .idleOn) :
    cancelFrame cause s = setCamPower false (s.modCam fun c => { c with phase := .off }) := by
  rw [cancelFrame, h]
  exact if_pos p

theorem cancelFrame_of_nothing (cause : RecordCause) {s : State} (h : s.cam.frame = none) (p : s.cam.phase ≠ .idleOn) :
    cancelFrame cause s = s := by
  rw [cancelFrame, h]
  exact if_neg p

/-- The report of a cut (R119). -/
def cutReport (f : Frame) (s : State) : Report :=
  { outcome := .aborted, cause := .hold, frame := f, value := ((now s - f.due : Nat) : Int), faultLimit := false
    byStop := false }

/-- R112, R119: the camera that a cut leaves, draining. -/
def cutCamera (s : State) : Camera :=
  { s.cam with
    phase := .writing, shut := false, focus := false, shutterAt := none, syncWindowAt := none, frame := none, drain := true
    stage := if s.cam.ready = true then .dropWatch (now s + 32) else .inProgress
    writeTimeoutAt := some (now s + s.params.writeTimeout) }

/-- R119: a cut: the boundary of the ABORTED frame up to its third step, with the camera draining. -/
theorem cutFrame_eq (f : Frame) (s : State) :
    cutFrame f s = boundaryBook (cutReport f s) { s with cam := cutCamera s } := by
  unfold cutFrame
  simp only [boundaryBook_eq]
  rfl

/-! ## The demand of hold entry -/

/-- R127: with nothing in hand and no camera kept on, the demand finds nothing to do. -/
theorem demandHold_of_nothing {s : State} (h : s.cam.frame = none) (p : s.cam.phase ≠ .idleOn) : demandHold s = s := by
  rw [demandHold, h]
  exact cancelFrame_of_nothing .hold h p

theorem demandHold_of_idleOn {s : State} (h : s.cam.frame = none) (p : s.cam.phase = .idleOn) :
    demandHold s = setCamPower false (s.modCam fun c => { c with phase := .off }) := by
  rw [demandHold, h]
  exact cancelFrame_of_idleOn .hold h p

/-- R118: a frame not yet in EXPOSING is one in these phases. -/
def BeforeExposing (p : Phase) : Prop := p = .waking ∨ p = .preparing ∨ p = .setting ∨ p = .waitDue

theorem demandHold_before_exposing {f : Frame} {s : State} (h : s.cam.frame = some f) (p : BeforeExposing s.cam.phase) :
    demandHold s = cancelFrame .hold s := by
  rw [demandHold, h]
  rcases p with p | p | p | p <;> simp only [p]

theorem demandHold_exposing {f : Frame} {s : State} (h : s.cam.frame = some f) (p : s.cam.phase = .exposing) :
    demandHold s = boundaryBook (cutReport f s) { s with cam := cutCamera s } := by
  rw [demandHold, h, ← cutFrame_eq]
  simp only [p]

theorem demandHold_writing {f : Frame} {s : State} (h : s.cam.frame = some f) (p : s.cam.phase = .writing) :
    demandHold s = s := by
  rw [demandHold, h]
  simp only [p]

end Sys2Proof.Machine
end

section
/-! PROOFS. The camera laws through hold entry, the walk and the frame boundary. -/

namespace Sys2Proof.Machine

/-! ## What does not reach what is in hand -/

@[simp] theorem handOf_modTb (s : State) (f : Timebase → Timebase) : handOf (s.modTb f) = handOf s := rfl
@[simp] theorem handOf_modMeter (s : State) (f : Meter → Meter) : handOf (s.modMeter f) = handOf s := rfl
@[simp] theorem handOf_modRamp (s : State) (f : Ramp → Ramp) : handOf (s.modRamp f) = handOf s := rfl
@[simp] theorem handOf_modPow (s : State) (f : Power → Power) : handOf (s.modPow f) = handOf s := rfl
@[simp] theorem handOf_modLog (s : State) (f : FrameLog → FrameLog) : handOf (s.modLog f) = handOf s := rfl
@[simp] theorem handOf_modLine (s : State) (f : LinePort → LinePort) : handOf (s.modLine f) = handOf s := rfl
@[simp] theorem handOf_modParams (s : State) (f : Params → Params) : handOf (s.modParams f) = handOf s := rfl
@[simp] theorem handOf_raiseAlert (a : Alert) (s : State) : handOf (raiseAlert a s) = handOf s := rfl
@[simp] theorem handOf_addSticky (x : Half) (s : State) : handOf (addSticky x s) = handOf s := rfl
@[simp] theorem handOf_accrue (s : State) : handOf (accrue s) = handOf s := by
  obtain ⟨p, h⟩ := accrue_frame s
  rw [h]
  rfl
@[simp] theorem handOf_meterRequest (c : MeterClass) (o : Owner) (r : Rounding) (s : State) :
    handOf (meterRequest c o r s) = handOf s := by
  obtain ⟨m, h⟩ := meterRequest_frame c o r s
  rw [h]
  rfl

theorem handOf_of_levelsMoved {s t : State} (h : LevelsMoved s t) : handOf t = handOf s := by
  obtain ⟨_, _, _, _, rfl, -⟩ := h
  rfl

theorem handOf_boundaryBook (r : Report) (s : State) : handOf (boundaryBook r s) = { handOf s with commit := false } := by
  rw [boundaryBook_eq]
  simp [handOf]

@[simp] theorem handOf_logWrite (r : LogRecord) (s : State) : handOf (logWrite r s) = handOf s := by
  rw [logWrite_eq]
  rfl

@[simp] theorem handOf_offerLatch (c : HoldCause) (s : State) : handOf (offerLatch c s) = handOf s := rfl

@[simp] theorem handOf_noteEvaluation (slot : Nat) (s : State) : handOf (noteEvaluation slot s) = handOf s := rfl

@[simp] theorem handOf_reanchor (s : State) : handOf (reanchor s) = handOf s := by
  obtain ⟨_, _, h⟩ := reanchor_seq s
  rw [h]
  rfl

/-! ## Keep-on and the levels -/

/-- R117: a camera kept on is switched off. -/
def Hand.switchedOff (h : Hand) : Hand := { h with phase := .off, power := false }

/-- What forming the levels can make of what is in hand: nothing, or a camera kept on is switched off. -/
def Hand.Kept (h h' : Hand) : Prop := h' = h ∨ (h.phase = .idleOn ∧ h' = h.switchedOff)

theorem Hand.Law.switchedOff {h : Hand} (l : h.Law) (p : h.phase = .idleOn) : h.switchedOff.Law := by
  grind [Hand.Law, Hand.switchedOff]

theorem Hand.Kept.law {h h' : Hand} (k : h.Kept h') (l : h.Law) : h'.Law := by
  rcases k with rfl | ⟨p, rfl⟩
  · exact l
  · exact l.switchedOff p

theorem Hand.Kept.trans {h h' h'' : Hand} (k : h.Kept h') (k' : h'.Kept h'') : h.Kept h'' := by
  rcases k with rfl | ⟨p, rfl⟩
  · exact k'
  · rcases k' with rfl | ⟨p', -⟩
    · exact .inr ⟨p, rfl⟩
    · cases p'

theorem keepOnOff_kept (s : State) : (handOf s).Kept (handOf (keepOnOff s)) := by
  unfold keepOnOff
  split
  case isTrue h => exact .inr ⟨h.1, rfl⟩
  case isFalse => exact .inl rfl

theorem formLevels_kept (s : State) : (handOf s).Kept (handOf (formLevels s)) := by
  unfold formLevels
  refine Hand.Kept.trans (.inl ?_) (keepOnOff_kept _)
  split
  · rfl
  · rw [handOf_of_levelsMoved (stretchChanged_moved _)]
    rfl

theorem settleLevels_kept (s : State) : (handOf s).Kept (handOf (settleLevels s)) :=
  (formLevels_kept s).trans (formLevels_kept _)

theorem accrual_kept (s : State) : (handOf s).Kept (handOf (accrual s)) :=
  handOf_accrue s ▸ settleLevels_kept (accrue s)

theorem chargeFrame_kept (s : State) : (handOf s).Kept (handOf (chargeFrame s)) :=
  handOf_modPow s _ ▸ settleLevels_kept (s.modPow _)

theorem setHeat_kept (on : Bool) (s : State) : (handOf s).Kept (handOf (setHeat on s)) := by
  unfold setHeat
  split
  · exact .inl rfl
  · exact accrual_kept _

theorem setCore_kept (c : CoreState) (s : State) : (handOf s).Kept (handOf (setCore c s)) := by
  unfold setCore
  split
  · exact .inl rfl
  · exact accrual_kept _

theorem keepOnTest_kept (s : State) : (handOf s).Kept (handOf (keepOnTest s)) := by
  unfold keepOnTest
  split
  · exact (keepOnOff_kept s).trans (settleLevels_kept _)
  · exact .inl rfl

theorem handOf_setCamPower (on : Bool) {s : State} (h : s.cam.phase ≠ .idleOn) :
    handOf (setCamPower on s) = { handOf s with power := on } := by
  obtain ⟨_, _, _, e, -⟩ := setCamPower_moved on h
  rw [e]
  rfl

/-! ## Hold entry -/

/-- R118: what a cancel leaves, in the phase of an unpowered camera. -/
def Hand.cancelled (p : Phase) (h : Hand) : Hand :=
  { h with phase := p, frame := none, power := false, focus := false, exchange := .idle, commit := false }

/-- R119: what a cut leaves, draining. -/
def Hand.cut (h : Hand) : Hand :=
  { h with phase := .writing, frame := none, drain := true, shut := false, focus := false, commit := false }

theorem Hand.Law.cancelled {h : Hand} (l : h.Law) (b : BeforeExposing h.phase) {p : Phase}
    (u : p = .off ∨ p = .cooldown) : (h.cancelled p).Law := by
  grind [Hand.Law, Hand.cancelled, BeforeExposing]

theorem Hand.Law.cut {h : Hand} (l : h.Law) (e : h.phase = .exposing) (q : h.state = .holding) : h.cut.Law := by
  grind [Hand.Law, Hand.cut]

/-- R126: at the cause the sequencer is in HOLDING, with no preparation start registered. -/
theorem Hand.Law.holding {h : Hand} (l : h.Law) (q : h.state = .armed ∨ h.state = .running) :
    ({ h with state := .holding, prep := false } : Hand).Law := by
  grind [Hand.Law]

/-- R129: HOLD is reached with nothing in hand and the camera off. -/
theorem Hand.Law.hold {h : Hand} (l : h.Law) (f : h.frame = none) (d : h.drain = false) (seed : h.seed = false) :
    ({ h with state := .hold } : Hand).Law := by
  grind [Hand.Law]

/-- R30, R31, R128: the run ends with no run frame in hand. -/
theorem Hand.Law.ended {h : Hand} (l : h.Law) (f : h.frame ≠ some .run) (d : h.drain = false) :
    ({ h with state := .ended, prep := false, seed := false } : Hand).Law := by
  grind [Hand.Law]

/-- R42, R44: a preparation start is registered for a run whose seed is in. -/
theorem Hand.Law.registered {h : Hand} (l : h.Law) (q : h.state ≠ .armed) (seed : h.seed = false) :
    ({ h with prep := true } : Hand).Law := by
  grind [Hand.Law]

theorem handOf_cancelFrame (cause : RecordCause) {f : Frame} {s : State} (h : s.cam.frame = some f) :
    handOf (cancelFrame cause s) = (handOf s).cancelled (unpoweredPhase s.cam) := by
  obtain ⟨_, _, _, e, -⟩ := cancelFrame_eq cause h
  rw [e, handOf_boundaryBook]
  rfl

theorem cancelFrame_hand (cause : RecordCause) {f : Frame} {s : State} (l : HandInv s) (h : s.cam.frame = some f)
    (b : BeforeExposing s.cam.phase) : HandInv (cancelFrame cause s) := by
  unfold HandInv
  rw [handOf_cancelFrame cause h]
  exact Hand.Law.cancelled l b (unpoweredPhase_off_or_cooldown s.cam)

/-- The phases that a frame in hand can stand in (R105). -/
theorem HandInv.phase_of_frame {s : State} (l : HandInv s) {f : Frame} (h : s.cam.frame = some f) :
    BeforeExposing s.cam.phase ∨ s.cam.phase = .exposing ∨ s.cam.phase = .writing := by
  unfold BeforeExposing
  cases p : s.cam.phase <;> simp_all [HandInv, Hand.Law, handOf]

theorem demandHold_hand {s : State} (l : HandInv s) (q : s.seq.state = .holding) : HandInv (demandHold s) := by
  cases h : s.cam.frame with
  | none =>
    by_cases p : s.cam.phase = .idleOn
    · rw [demandHold_of_idleOn h p]
      unfold HandInv
      rw [handOf_setCamPower false (by simp)]
      exact Hand.Law.switchedOff (h := handOf s) l p
    · rwa [demandHold_of_nothing h p]
  | some f =>
    rcases l.phase_of_frame h with p | p | p
    · rw [demandHold_before_exposing h p]
      exact cancelFrame_hand .hold l h p
    · unfold HandInv
      rw [demandHold_exposing h p, handOf_boundaryBook]
      exact Hand.Law.cut (h := handOf s) l p q
    · rwa [demandHold_writing h p]

theorem enterEnded_hand {s : State} (l : HandInv s) (f : frameInFlight s = false) (d : s.cam.drain = false) :
    HandInv (enterEnded s) := by
  exact Hand.Law.ended (h := handOf s) l (by rw [ne_eq, handOf_frame_run, f]; nofun) d

theorem holdCheck_hand {s : State} (l : HandInv s) : HandInv (holdCheck s) := by
  unfold holdCheck
  split
  case isFalse => exact l
  case isTrue h =>
    have parked : s.cam.frame = none ∧ s.cam.drain = false ∧ s.cam.power = false := by
      simpa [cameraParked, and_assoc] using h.2.1
    obtain ⟨frame, drain, -⟩ := parked
    split
    · exact enterEnded_hand l (frameInFlight_of_none frame) drain
    · exact Hand.Law.hold (h := handOf s) l (by simp [handOf, frame]) drain h.2.2

theorem holdEntry_hand (cause : HoldCause) (point : HoldPoint) {s : State} (l : HandInv s)
    (q : s.seq.state = .armed ∨ s.seq.state = .running) : HandInv (holdEntry cause point s) := by
  exact holdCheck_hand (demandHold_hand (Hand.Law.holding (h := handOf s) l q) rfl)

theorem causeArises_hand (cause : HoldCause) {s : State} (l : HandInv s) : HandInv (causeArises cause s) := by
  unfold causeArises
  split
  case h_1 q => exact holdEntry_hand cause .current l (.inl q)
  case h_2 q =>
    split
    · exact l
    · exact holdEntry_hand cause .current l (.inr q)
  case h_3 =>
    split
    · exact l
    · exact l
  all_goals exact l

theorem powerCauseAtEntry_hand {s : State} (l : HandInv s) : HandInv (powerCauseAtEntry s) := by
  unfold powerCauseAtEntry
  split
  · exact causeArises_hand .power l
  · exact l

/-! ## The walk -/

/-- A run that may walk: nothing in hand and no seed awaited (R33, R57). -/
def Walkable (s : State) : Prop :=
  HandInv s ∧ s.seq.state = .running ∧ s.seq.awaitingSeed = false ∧ s.cam.frame = none

/-- R105: no drain outside HOLDING. -/
theorem HandInv.drain {s : State} (l : HandInv s) (q : s.seq.state ≠ .holding) : s.cam.drain = false := by
  obtain ⟨-, -, -, -, -, drain, -⟩ := l
  cases d : s.cam.drain
  · rfl
  · exact absurd (drain d) q

theorem Walkable.drain {s : State} (w : Walkable s) : s.cam.drain = false :=
  w.1.drain (by rw [w.2.1]; nofun)

theorem programEnded_hand {s : State} (w : Walkable s) : HandInv (programEnded s) :=
  enterEnded_hand w.1 (frameInFlight_of_none w.2.2.2) w.drain

theorem anchorGrid_hand (slot : Nat) {s : State} (w : Walkable s) : HandInv (anchorGrid s slot) := by
  obtain ⟨l, run, seed, -⟩ := w
  exact Hand.Law.registered (h := handOf s) l (by rw [show (handOf s).state = _ from run]; nofun) seed

theorem walk_hand (fuel slot count : Nat) {s : State} (w : Walkable s) : HandInv (walk fuel slot count s) := by
  induction fuel generalizing slot count s with
  | zero => exact holdEntry_hand .loop _ w.1 (.inr w.2.1)
  | succ fuel ih =>
    unfold walk
    dsimp only
    split
    · exact holdEntry_hand .loop _ w.1 (.inr w.2.1)
    · generalize hs2 : (if gateTrue _ _ = true then _ else _ : State) = s2
      have w2 : Walkable s2 := by
        subst hs2
        split <;> exact w
      split
      · exact anchorGrid_hand slot w2
      · split
        · exact ih _ _ w2
        · exact ih _ _ w2
        · exact programEnded_hand w2

theorem walkFrom_hand (slot count : Nat) {s : State} (w : Walkable s) : HandInv (walkFrom slot count s) :=
  walk_hand 24 slot count w

theorem walkNext_hand (slot : Nat) {s : State} (w : Walkable s) : HandInv (walkNext slot s) := by
  unfold walkNext
  split
  · exact walkFrom_hand _ _ w
  · exact walkFrom_hand _ _ w
  · exact programEnded_hand w

/-! ## The frame boundary -/

theorem evaluateAtBoundary_hand {s : State} (w : Walkable s) : HandInv (evaluateAtBoundary s) := by
  unfold evaluateAtBoundary
  split
  · exact w.1
  · rename_i c _
    have w1 : Walkable (noteEvaluation c.slot s) := w
    dsimp only
    split
    · exact walkNext_hand _ w1
    · split
      · unfold HandInv
        rw [handOf_reanchor]
        exact w1.1
      · exact w1.1

/-- R37: the boundary of a frame that has just left the camera, a commit pending behind it. -/
theorem frameBoundary_hand (r : Report) {s : State} (l : ({ handOf s with commit := false } : Hand).Law)
    (seed : s.seq.awaitingSeed = false) (f : s.cam.frame = none) : HandInv (frameBoundary r s) := by
  have booked : HandInv (boundaryBook r s) := by rwa [HandInv, handOf_boundaryBook]
  have seed' : (boundaryBook r s).seq.awaitingSeed = false := by rw [boundaryBook_eq]; exact seed
  have f' : (boundaryBook r s).cam.frame = none := by rw [boundaryBook_eq]; exact f
  unfold frameBoundary
  generalize boundaryBook r s = s1 at *
  dsimp only
  split
  case h_1 run =>
    have w : Walkable s1 := ⟨booked, run, seed', f'⟩
    split
    · exact enterEnded_hand booked (frameInFlight_of_none f') w.drain
    · split
      · exact holdEntry_hand .camera _ booked (.inr run)
      · split
        · exact walkFrom_hand _ _ w
        · exact evaluateAtBoundary_hand w
  case h_2 =>
    split
    · exact booked
    · exact booked
  all_goals exact booked

end Sys2Proof.Machine
end

section
/-! PROOFS. The camera laws through the camera controller: outcomes, the frame's compares, metering, the exchange and the handing
of frames (R88 to R91, R106 to R114, R119, R121). -/

namespace Sys2Proof.Machine

/-! ## Outcomes -/

/-- What is in hand once an outcome has taken the frame out of the camera, which is off, cooling down or kept on. -/
def Hand.emptied (h : Hand) (p : Phase) (on : Bool) : Hand := { h with phase := p, power := on, frame := none, commit := false }

theorem Hand.Law.emptied_unpowered {h : Hand} (l : h.Law) (b : h.phase = .preparing ∨ h.phase = .writing)
    (d : h.drain = false) {p : Phase} (u : p = .off ∨ p = .cooldown) : (h.emptied p false).Law := by
  grind [Hand.Law, Hand.emptied]

theorem Hand.Law.emptied_kept {h : Hand} (l : h.Law) (b : h.phase = .writing) (d : h.drain = false) :
    (h.emptied .idleOn true).Law := by
  grind [Hand.Law, Hand.emptied]

/-- R57, R119: with a frame in hand there is no drain and no seed is awaited. -/
theorem Hand.Law.of_frame {h : Hand} (l : h.Law) {k : FrameKind} (f : h.frame = some k) : h.drain = false ∧ h.seed = false := by
  grind [Hand.Law]

theorem Hand.Law.commit_of_test {h : Hand} (l : h.Law) (f : h.frame = some .test) : h.commit = false := by
  grind [Hand.Law]

theorem HandInv.of_frame {s : State} (l : HandInv s) {f : Frame} (h : s.cam.frame = some f) :
    s.cam.drain = false ∧ s.seq.awaitingSeed = false :=
  Hand.Law.of_frame (k := f.kind) l (by simp [handOf, h])

theorem Hand.Law.power {h : Hand} (l : h.Law)
    (p : h.phase = .setting ∨ h.phase = .waitDue ∨ h.phase = .exposing ∨ h.phase = .writing) : h.power = true := by
  grind [Hand.Law]

/-- R102: from SETTING to WRITING the camera is on. -/
theorem HandInv.power {s : State} (l : HandInv s)
    (p : s.cam.phase = .setting ∨ s.cam.phase = .waitDue ∨ s.cam.phase = .exposing ∨ s.cam.phase = .writing) :
    s.cam.power = true := Hand.Law.power l p

/-- R17, R18: no commit is pending behind a test shot. -/
theorem HandInv.commit_of_test {s : State} (l : HandInv s) {f : Frame} (h : s.cam.frame = some f) (k : f.kind = .test) :
    s.prog.commitPending = false :=
  Hand.Law.commit_of_test l (by simp [handOf, h, k])

theorem handOf_updateFaults (o : Outcome) (timeout : Bool) (s : State) : handOf (updateFaults o timeout s) = handOf s := by
  unfold updateFaults addFault
  split <;> try rfl
  split <;> rfl

/-- R113, R122: a frame in hand, reported with the camera as the outcome leaves it, takes the laws to the boundary. -/
theorem reportOutcome_hand (o : Outcome) (cause : RecordCause) (timeout : Bool) (value : Int) (f : Frame) {s : State}
    (l : ({ handOf s with frame := none, commit := false } : Hand).Law) (seed : s.seq.awaitingSeed = false)
    (commit : f.kind = .test → s.prog.commitPending = false) : HandInv (reportOutcome o cause timeout value f s) := by
  unfold reportOutcome
  split
  case h_1 k =>
    have c : (handOf s).commit = false := commit k
    change ({ handOf s with frame := none } : Hand).Law
    rw [← c] at l
    exact l
  case h_2 =>
    refine frameBoundary_hand _ ?_ ?_ rfl
    · change ({ handOf (updateFaults o timeout s) with frame := none, commit := false } : Hand).Law
      rwa [handOf_updateFaults]
    · change (handOf (updateFaults o timeout s)).seed = false
      rwa [handOf_updateFaults]

/-- R113, R116: camera power after a frame written. -/
theorem handOf_settlePower (f : Frame) (s : State) :
    ∃ p on, ((p = .off ∧ on = false) ∨ (p = .idleOn ∧ on = s.cam.power)) ∧
      handOf (settlePower f s) = { handOf s with phase := p, power := on } := by
  unfold settlePower
  split
  · exact ⟨.idleOn, s.cam.power, .inr ⟨rfl, rfl⟩, rfl⟩
  · exact ⟨.off, false, .inl ⟨rfl, rfl⟩, handOf_setCamPower false (by simp)⟩

/-- R113: the frame leaves the camera in a phase that the outcome sets, and is reported and charged. -/
theorem settled_hand (o : Outcome) (cause : RecordCause) (timeout : Bool) (value : Int) {f f' : Frame} {s u : State}
    (l : HandInv s) (h : s.cam.frame = some f) (k : f'.kind = f.kind) {p : Phase} {on : Bool}
    (e : ({ handOf u with frame := none, commit := false } : Hand) = (handOf s).emptied p on)
    (lu : ((handOf s).emptied p on).Law) (c : u.prog.commitPending = s.prog.commitPending) :
    HandInv (reportOutcome o cause timeout value f' u) := by
  refine reportOutcome_hand _ _ _ _ _ (e ▸ lu) ?_ fun t => c.trans (l.commit_of_test h (k ▸ t))
  exact (congrArg Hand.seed e).trans (l.of_frame h).2

/-- R113: a frame of WRITING whose write has ended. -/
theorem frameOutcome_written_hand {f : Frame} {s : State} (l : HandInv s) (h : s.cam.frame = some f)
    (w : s.cam.phase = .writing) : HandInv (frameOutcome false f s) := by
  obtain ⟨p, on, settled, e⟩ := handOf_settlePower f (s.modCam endWriting)
  refine (chargeFrame_kept _).law (settled_hand _ _ _ _ l h rfl (p := p) (on := on) ?_ ?_ (congrArg Hand.commit e))
  · rw [show (if false = true then s else settlePower f (s.modCam endWriting)) = settlePower f (s.modCam endWriting) from rfl, e]
    rfl
  · rcases settled with ⟨rfl, rfl⟩ | ⟨rfl, rfl⟩
    · exact Hand.Law.emptied_unpowered l (.inr w) (l.of_frame h).1 (.inl rfl)
    · have kept := Hand.Law.emptied_kept l w (l.of_frame h).1
      rwa [← l.power (.inr (.inr (.inr w)))] at kept

/-- R105, R119: a drain stands in WRITING alone. -/
theorem Hand.Law.writing_of_drain {h : Hand} (l : h.Law) (d : h.drain = true) : h.phase = .writing := by
  grind [Hand.Law]

/-- R112, R119: a drain ends with the camera off, at once or in COOLDOWN. -/
theorem Hand.Law.drained {h : Hand} (l : h.Law) (w : h.phase = .writing) (f : h.frame = none) {p : Phase}
    (u : p = .off ∨ p = .cooldown) : ({ h with drain := false, phase := p, power := false } : Hand).Law := by
  grind [Hand.Law]

theorem endDrain_hand {s : State} (l : HandInv s) (w : s.cam.phase = .writing) (f : s.cam.frame = none) :
    HandInv (endDrain s) := by
  unfold HandInv endDrain
  rw [handOf_setCamPower false (by simp)]
  exact Hand.Law.drained (h := handOf s) l w (by simp [handOf, f]) (.inl rfl)

theorem settleIfReady_hand {s : State} (l : HandInv s) : HandInv (settleIfReady s) := by
  unfold settleIfReady
  split
  case h_1 f h =>
    split
    case isTrue settled =>
      simp only [outcomeSettled, Bool.and_eq_true, decide_eq_true_eq] at settled
      exact frameOutcome_written_hand l h settled.1.1
    case isFalse => exact l
  case h_2 h =>
    split
    case isTrue drained =>
      simp only [Bool.and_eq_true] at drained
      exact endDrain_hand l (Hand.Law.writing_of_drain l drained.1) h
    case isFalse => exact l

theorem completeWrite_hand {s : State} (l : HandInv s) : HandInv (completeWrite s) := settleIfReady_hand l

theorem readyChange_hand (rise : Bool) {s : State} (l : HandInv s) : HandInv (readyChange rise s) := by
  unfold readyChange
  split
  · exact l
  · dsimp only
    split
    · split
      · exact l
      · exact completeWrite_hand l
      · exact l
    · exact l

/-- A frame in hand changed in a field that is not its kind. -/
theorem HandInv.changeFrame {s : State} (l : HandInv s) {f f' : Frame} (h : s.cam.frame = some f) (k : f'.kind = f.kind) :
    HandInv (s.modCam fun c => { c with frame := some f' }) := by
  have e : handOf (s.modCam fun c => { c with frame := some f' }) = handOf s := by simp [handOf, h, k]
  rwa [HandInv, e]

theorem syncClosure_hand {s : State} (l : HandInv s) : HandInv (syncClosure s) := by
  unfold syncClosure
  dsimp only
  split
  case h_1 f h =>
    split
    · have l1 : HandInv (s.modCam fun c => { c with syncClosed := true }) := l
      exact settleIfReady_hand (l1.changeFrame h rfl)
    · exact l
  case h_2 => exact l

theorem syncWindowExpiry_hand {s : State} (l : HandInv s) : HandInv (syncWindowExpiry s) := settleIfReady_hand l

/-! ## Timeout and cooldown -/

theorem handOf_coolDown (s : State) :
    handOf (coolDown s) = { handOf s with drain := false, phase := .cooldown, power := false } := by
  unfold coolDown
  rw [handOf_setCamPower false (by simp)]
  rfl

theorem writeTimeout_hand {s : State} (l : HandInv s) (w : s.cam.phase = .writing) : HandInv (writeTimeout s) := by
  unfold writeTimeout
  split
  case h_1 f =>
    rw [HandInv, handOf_coolDown]
    exact Hand.Law.drained (h := handOf s) l w (by simp [handOf, f]) (.inr rfl)
  case h_2 f h =>
    have d := (l.of_frame h).1
    refine (chargeFrame_kept _).law (settled_hand _ _ _ _ l h ?_ (p := .cooldown) (on := false) ?_ ?_ ?_)
    · rfl
    · rw [if_pos rfl, handOf_coolDown]
      simp [handOf, Hand.emptied, d]
    · exact Hand.Law.emptied_unpowered l (.inr w) d (.inr rfl)
    · exact congrArg Hand.commit (handOf_coolDown _)

theorem Hand.Law.cooled {h : Hand} (l : h.Law) (p : h.phase = .cooldown) : ({ h with phase := .off } : Hand).Law := by
  grind [Hand.Law]

theorem Hand.Law.poweredUp {h : Hand} (l : h.Law) (p : h.phase = .waking ∨ h.phase = .preparing) :
    ({ h with power := true } : Hand).Law := by
  grind [Hand.Law]

theorem cooldownEnd_hand {s : State} (l : HandInv s) : HandInv (cooldownEnd s) := by
  have waking (p : s.cam.phase = .waking ∨ s.cam.phase = .preparing) :
      HandInv (setCamPower true (s.modCam fun c => { c with cooldownEnd := none })) := by
    rw [HandInv, handOf_setCamPower true (by rcases p with p | p <;> simp [p])]
    exact Hand.Law.poweredUp (h := handOf s) l p
  unfold cooldownEnd
  dsimp only
  split
  case h_1 p => exact Hand.Law.cooled (h := handOf s) l p
  case h_2 p => exact waking (.inl p)
  case h_3 p => exact waking (.inr p)
  all_goals exact l

/-! ## The exposure -/

theorem Hand.Law.released {h : Hand} (l : h.Law) (p : h.phase = .exposing) :
    ({ h with phase := .writing, shut := false, focus := false } : Hand).Law := by
  have f : h.frame.isNone = false := by
    obtain ⟨phase, -⟩ := l
    simp_all
  grind [Hand.Law]

theorem shutterHoldExpiry_hand {s : State} (l : HandInv s) (p : s.cam.phase = .exposing) :
    HandInv (shutterHoldExpiry s) := Hand.Law.released (h := handOf s) l p

theorem Hand.Law.exchangeClosed {h : Hand} (l : h.Law) (p : h.phase = .setting) {q : Phase}
    (w : q = .setting ∨ q = .waitDue) : ({ h with phase := q, exchange := .idle } : Hand).Law := by
  grind [Hand.Law]

/-- R90, R91: what closing an exchange leaves in hand. -/
theorem handOf_closeExchange (r : ExchangeResult) (x : Half) (s : State) :
    ∃ q, (q = s.cam.phase ∨ q = .waitDue) ∧ handOf (closeExchange r x s) = { handOf s with phase := q, exchange := .idle } := by
  unfold closeExchange
  split
  case h_1 => exact ⟨_, .inl rfl, rfl⟩
  case h_2 f h =>
    split
    case h_1 => exact ⟨_, .inl rfl, rfl⟩
    case h_2 e _ =>
      refine ⟨_, .inr rfl, ?_⟩
      dsimp only
      split <;> simp [handOf, h, idleExchange, addSticky]

theorem closeExchange_hand (r : ExchangeResult) (x : Half) {s : State} (l : HandInv s) (p : s.cam.phase = .setting) :
    HandInv (closeExchange r x s) := by
  obtain ⟨q, w, e⟩ := handOf_closeExchange r x s
  rw [HandInv, e]
  exact Hand.Law.exchangeClosed l p (p ▸ w)

/-- R88, R89: an exchange is open in SETTING alone. -/
theorem Hand.Law.setting_of_open {h : Hand} (l : h.Law) (o : h.exchange ≠ .idle) : h.phase = .setting := by
  grind [Hand.Law]

theorem HandInv.setting_of_open {s : State} (l : HandInv s) (o : s.cam.exchange ≠ .idle) : s.cam.phase = .setting :=
  Hand.Law.setting_of_open l o

theorem judgeReply_hand (status mode shutter gain checksum : Byte) {s : State} (l : HandInv s)
    (p : s.cam.phase = .setting) : HandInv (judgeReply status mode shutter gain checksum s) := by
  unfold judgeReply
  split
  · exact closeExchange_hand _ _ l p
  · split
    · exact closeExchange_hand _ _ l p
    · split
      · exact closeExchange_hand _ _ l p
      · rename_i m _
        have l1 : HandInv (s.modCam fun c =>
          { c with settings := some { mode := m, shutter := shutter.toInt, gain := gain.toNat } }) := l
        dsimp only
        split
        · exact closeExchange_hand _ _ l1 p
        · exact closeExchange_hand _ _ l1 p

theorem replyRecord_hand (status mode shutter gain checksum : Byte) {s : State} (l : HandInv s) :
    HandInv (replyRecord status mode shutter gain checksum s) := by
  unfold replyRecord
  split
  case isTrue h => exact judgeReply_hand _ _ _ _ _ l (l.setting_of_open (by simp [h.1]))
  case isFalse => exact l

theorem Hand.Law.awaiting {h : Hand} (l : h.Law) (p : h.exchange = .sending) :
    ({ h with exchange := .awaiting } : Hand).Law := by
  grind [Hand.Law]

theorem settingRecordSent_hand {s : State} (l : HandInv s) : HandInv (settingRecordSent s) := by
  unfold settingRecordSent
  split
  case isTrue p => exact Hand.Law.awaiting (h := handOf s) l p
  case isFalse => exact l

theorem replyLeadByte_hand {s : State} (l : HandInv s) : HandInv (replyLeadByte s) := by
  unfold replyLeadByte
  split <;> exact l

theorem accessoryByteError_hand {s : State} (l : HandInv s) : HandInv (accessoryByteError s) := by
  unfold accessoryByteError
  split <;> exact l

theorem Hand.Law.opened {h : Hand} (l : h.Law) (p : h.phase = .setting ∨ h.phase = .waitDue) (x : h.exchange = .idle)
    (focus : Bool) : ({ h with phase := .exposing, shut := true, focus := focus } : Hand).Law := by
  grind [Hand.Law]

theorem openShutter_hand {f : Frame} {s : State} (l : HandInv s) (h : s.cam.frame = some f)
    (p : s.cam.phase = .setting ∨ s.cam.phase = .waitDue) (x : s.cam.exchange = .idle) : HandInv (openShutter f s) := by
  have e : handOf (openShutter f s) =
      { handOf s with phase := .exposing, shut := true, focus := s.cam.focus || decide (f.leads.focus = 0) } := by
    simp [openShutter, handOf, h]
  rw [HandInv, e]
  exact Hand.Law.opened (h := handOf s) l p x _

/-- A frame's compare that is due finds the frame in hand, in a phase that awaits it (R107). -/
theorem momentDue_spec {at_ : Frame → Option Nat} {phases : List Phase} {s : State} (d : momentDue at_ phases s = true) :
    ∃ f, s.cam.frame = some f ∧ s.cam.phase ∈ phases := by
  unfold momentDue at d
  split at d
  case h_1 f h =>
    simp only [Bool.and_eq_true, List.contains_eq_mem, decide_eq_true_eq] at d
    exact ⟨f, h, d.1⟩
  case h_2 => cases d

theorem dueTime_hand {s : State} (l : HandInv s) (d : dueTimeDue s = true) : HandInv (dueTime s) := by
  obtain ⟨-, -, p⟩ := momentDue_spec d
  have p : s.cam.phase = .setting ∨ s.cam.phase = .waitDue := by simpa using p
  have closed : ∃ s1, s1 = (if exchangeOpen s = true then closeExchange (.failure .timeout) flagSetLate s else s) ∧
      HandInv s1 ∧ (s1.cam.phase = .setting ∨ s1.cam.phase = .waitDue) ∧ s1.cam.exchange = .idle := by
    refine ⟨_, rfl, ?_⟩
    split
    case isTrue o =>
      have o : s.cam.exchange ≠ .idle := by simpa [exchangeOpen] using o
      have setting := l.setting_of_open o
      obtain ⟨q, w, e⟩ := handOf_closeExchange (.failure .timeout) flagSetLate s
      refine ⟨closeExchange_hand _ _ l setting, ?_, congrArg Hand.exchange e⟩
      rw [show (closeExchange (.failure .timeout) flagSetLate s).cam.phase = q from congrArg Hand.phase e]
      exact setting ▸ w
    case isFalse o => exact ⟨l, p, by simpa [exchangeOpen] using o⟩
  obtain ⟨s1, e1, l1, p1, x1⟩ := closed
  unfold dueTime
  rw [← e1]
  dsimp only
  split
  case h_1 f h => exact openShutter_hand l1 h p1 x1
  case h_2 => exact l1

theorem Hand.Law.focused {h : Hand} (l : h.Law) (p : h.phase = .setting ∨ h.phase = .waitDue) :
    ({ h with focus := true } : Hand).Law := by
  grind [Hand.Law]

theorem focusLead_hand {s : State} (l : HandInv s) (d : focusLeadDue s = true) : HandInv (focusLead s) := by
  obtain ⟨f, h, p⟩ := momentDue_spec d
  have e : handOf (focusLead s) = { handOf s with focus := true } := by simp [focusLead, handOf, h]
  rw [HandInv, e]
  have p : s.cam.phase = .setting ∨ s.cam.phase = .waitDue := by simpa using p
  exact Hand.Law.focused l p

/-! ## Metering and computation -/

theorem Hand.Law.preparing {h : Hand} (l : h.Law) (p : h.phase = .waking) : ({ h with phase := .preparing } : Hand).Law := by
  grind [Hand.Law]

theorem handOf_requestMetering {f : Frame} {s : State} (h : s.cam.frame = some f) :
    handOf (requestMetering s) = { handOf s with phase := .preparing } := by
  unfold requestMetering
  rw [h]
  dsimp only
  rw [handOf_meterRequest]
  simp [handOf, h]

theorem meterLead_hand {s : State} (l : HandInv s) (d : meterLeadDue s = true) : HandInv (meterLead s) := by
  obtain ⟨f, h, p⟩ := momentDue_spec d
  have p : s.cam.phase = .waking := by simpa using p
  rw [HandInv, meterLead, handOf_requestMetering h]
  exact Hand.Law.preparing l p

/-- R89, R93: the frame computed, its exchange open or its record finished. -/
theorem Hand.Law.computed {h : Hand} (l : h.Law) (p : h.phase = .preparing) (on : h.power = true) (focus : Bool) :
    ({ h with phase := .setting, focus := focus, exchange := .sending } : Hand).Law ∧
    ({ h with phase := .waitDue, focus := focus } : Hand).Law := by
  grind [Hand.Law]

theorem leaveComputation_hand {f f' : Frame} (link : Bool) (e : Exposure) {s : State} (l : HandInv s)
    (h : s.cam.frame = some f) (k : f'.kind = f.kind) (p : s.cam.phase = .preparing) (on : s.cam.power = true) :
    HandInv (leaveComputation f' link e s) := by
  obtain ⟨setting, waitDue⟩ :=
    Hand.Law.computed (h := handOf s) l p on (s.cam.focus || decide (f'.leads.setting ≤ f'.leads.focus))
  cases link
  case false =>
    have e' : handOf (leaveComputation f' false e s) =
        { handOf s with phase := .waitDue, focus := s.cam.focus || decide (f'.leads.setting ≤ f'.leads.focus) } := by
      simp [leaveComputation, handOf, h, k]
    rwa [HandInv, e']
  case true =>
    have e' : handOf (leaveComputation f' true e s) =
        { handOf s with
          phase := .setting, focus := s.cam.focus || decide (f'.leads.setting ≤ f'.leads.focus)
          exchange := .sending } := by
      simp [leaveComputation, openExchange, handOf, h, k]
    rwa [HandInv, e']

theorem computeRun_hand {f f' : Frame} (m : Metered) {s : State} (l : HandInv s) (h : s.cam.frame = some f)
    (k : f'.kind = f.kind) (p : s.cam.phase = .preparing) (on : s.cam.power = true) : HandInv (computeRun f' m s) := by
  unfold computeRun
  dsimp only
  split <;> exact leaveComputation_hand (f := f) _ _ (s := _) l h k p on

theorem computeTest_hand {f f' : Frame} (m : Metered) {s : State} (l : HandInv s) (h : s.cam.frame = some f)
    (k : f'.kind = f.kind) (p : s.cam.phase = .preparing) (on : s.cam.power = true) : HandInv (computeTest f' m s) :=
  leaveComputation_hand (f := f) _ _ (s := s.modRamp _) l h k p on

theorem readinessFailure_hand {f f' : Frame} {s : State} (l : HandInv s) (h : s.cam.frame = some f)
    (k : f'.kind = f.kind) (p : s.cam.phase = .preparing) : HandInv (readinessFailure f' s) := by
  have e := handOf_setCamPower false (s := s.modCam fun c => { c with phase := unpoweredPhase c })
    (unpoweredPhase_ne_idleOn s.cam)
  refine settled_hand _ _ _ _ l h k (p := unpoweredPhase s.cam) (on := false) ?_ ?_ (congrArg Hand.commit e)
  · rw [e]
    rfl
  · exact Hand.Law.emptied_unpowered l (.inl p) (l.of_frame h).1 (unpoweredPhase_off_or_cooldown _)

theorem settingLead_hand {s : State} (l : HandInv s) (d : settingLeadDue s = true) : HandInv (settingLead s) := by
  obtain ⟨f, h, p⟩ := momentDue_spec d
  have p : s.cam.phase = .preparing := by simpa using p
  unfold settingLead
  rw [h]
  dsimp only
  generalize hf : ({ f with metered := _, meteringOpen := false, settingAt := none } : Frame) = f1
  have k : f1.kind = f.kind := by rw [← hf]
  have l1 := l.changeFrame h k
  split
  case isTrue on =>
    simp only [Bool.and_eq_true] at on
    split
    · exact computeRun_hand _ l1 rfl rfl p on.1
    · exact computeTest_hand _ l1 rfl rfl p on.1
  case isFalse => exact readinessFailure_hand l1 rfl rfl p

/-! ## Handing -/

theorem serveIf_hand {due : State → Bool} {op : State → State} {s : State} (l : HandInv s)
    (keeps : due s = true → HandInv (op s)) : HandInv (serveIf due op s) := by
  unfold serveIf
  split
  case isTrue d => exact keeps d
  case isFalse => exact l

theorem takeMoments_hand {s : State} (l : HandInv s) : HandInv (takeMoments s) := by
  have l1 := serveIf_hand l (meterLead_hand l)
  have l2 := serveIf_hand l1 (settingLead_hand l1)
  have l3 := serveIf_hand l2 (focusLead_hand l2)
  exact serveIf_hand l3 (dueTime_hand l3)

/-- R105: a frame of a kind that the sequencer's state allows, with no seed awaited (R57). -/
def Hand.Admits (h : Hand) : FrameKind → Prop
  | .run => (h.state = .running ∨ h.state = .holding) ∧ h.seed = false
  | .test => (h.state = .idle ∨ h.state = .ended) ∧ h.commit = false

theorem Hand.Law.handed {h : Hand} (l : h.Law) {k : FrameKind} (a : h.Admits k) :
    (h.phase = .off → ({ h with phase := .waking, frame := some k, power := true } : Hand).Law) ∧
    (h.phase = .cooldown → ({ h with phase := .waking, frame := some k } : Hand).Law) ∧
    (h.phase = .idleOn → ({ h with phase := .preparing, frame := some k } : Hand).Law) := by
  cases k <;> grind [Hand.Law, Hand.Admits]

theorem handFrame_hand (f : Frame) {s : State} (l : HandInv s) (a : (handOf s).Admits f.kind) : HandInv (handFrame f s) := by
  obtain ⟨off, cooldown, idleOn⟩ := Hand.Law.handed l a
  unfold handFrame
  split
  case h_1 p =>
    rw [HandInv, handOf_setCamPower true (by simp)]
    exact off p
  case h_2 p => exact cooldown p
  case h_3 p =>
    rw [HandInv, handOf_requestMetering (f := f) rfl]
    exact idleOn p
  all_goals exact l

theorem beginTest_hand {s : State} (l : HandInv s) (q : s.seq.state = .idle ∨ s.seq.state = .ended)
    (f : s.cam.frame = none) : HandInv (beginTest s) := by
  have c : s.prog.commitPending = false := by
    obtain ⟨-, -, -, -, -, -, commit, -⟩ := l
    by_contra c
    simpa [handOf, f] using commit (by simpa [handOf] using c)
  exact takeMoments_hand (handFrame_hand _ (s := State.modRamp _ _) l ⟨q, c⟩)

end Sys2Proof.Machine
end

section
/-! PROOFS. The camera laws through the sequencer's requests, the meter, the power monitor and the end of an event, and so through
every step (R24 to R46, R124 to R143, R149). -/

namespace Sys2Proof.Machine

/-! ## The beginning of a run -/

/-- R26, R105: a part in which no run is under way has no run frame and no drain. -/
theorem Hand.Law.idle {h : Hand} (l : h.Law) (q : h.state ≠ .running) (q' : h.state ≠ .holding) :
    h.frame ≠ some .run ∧ h.drain = false ∧ h.commit = false ∧ h.seed = false := by
  grind [Hand.Law]

/-- R26, R121: outside IDLE and ENDED there is no test shot. -/
theorem Hand.Law.no_test {h : Hand} (l : h.Law) (q : h.state ≠ .idle) (q' : h.state ≠ .ended) : h.frame ≠ some .test := by
  grind [Hand.Law]

theorem HandInv.frame_none {s : State} (run : frameInFlight s = false) (test : testInFlight s = false) :
    s.cam.frame = none := by
  cases h : s.cam.frame with
  | none => rfl
  | some f => cases k : f.kind <;> simp [frameInFlight, testInFlight, h, k] at run test

/-- In ARMED and HOLD nothing is in hand. -/
theorem HandInv.nothing_in_hand {s : State} (l : HandInv s) (q : s.seq.state = .armed ∨ s.seq.state = .hold) :
    s.cam.frame = none ∧ s.cam.drain = false ∧ s.seq.awaitingSeed = false := by
  have idle := Hand.Law.idle (h := handOf s) l (by rcases q with q | q <;> simp [handOf, q])
    (by rcases q with q | q <;> simp [handOf, q])
  have test := Hand.Law.no_test (h := handOf s) l (by rcases q with q | q <;> simp [handOf, q])
    (by rcases q with q | q <;> simp [handOf, q])
  rw [ne_eq, handOf_frame_run] at idle
  rw [ne_eq, handOf_frame_test] at test
  exact ⟨HandInv.frame_none (by simpa using idle.1) (by simpa using test), idle.2.1, idle.2.2.2⟩

/-- R28: a run begins with nothing in hand, its seed awaited. -/
theorem Hand.Law.begun {h : Hand} (l : h.Law) (q : h.state ≠ .holding) (f : h.frame = none) (r : h.prep = false) :
    ({ h with state := .running, seed := true } : Hand).Law := by
  grind [Hand.Law]

theorem runBegin_hand {s : State} (l : HandInv s) (q : s.seq.state ≠ .holding) (f : s.cam.frame = none)
    (r : s.seq.prepRegistered = false) : HandInv (runBegin s) := by
  refine powerCauseAtEntry_hand ?_
  rw [HandInv, handOf_meterRequest]
  exact Hand.Law.begun (h := handOf s) l q (by simp [handOf, f]) r

/-- R43: in ARMED no preparation start is registered. -/
theorem HandInv.prep_of_armed {s : State} (l : HandInv s) (q : s.seq.state = .armed) : s.seq.prepRegistered = false := by
  obtain ⟨-, -, -, -, -, -, -, -, -, armed⟩ := l
  exact armed q

theorem runBegin_armed_hand {s : State} (l : HandInv s) (q : s.seq.state = .armed) : HandInv (runBegin s) :=
  runBegin_hand l (by simp [q]) (l.nothing_in_hand (.inl q)).1 (l.prep_of_armed q)

theorem armedStartDue_state {s : State} (d : armedStartDue s = true) : s.seq.state = .armed := by
  simp only [armedStartDue, Bool.and_eq_true, decide_eq_true_eq] at d
  exact d.1

theorem Hand.Law.restarted {h : Hand} (l : h.Law) (f : h.frame = none) :
    ({ h with seed := false, prep := false } : Hand).Law := by
  grind [Hand.Law]

theorem Hand.Law.armed {h : Hand} (l : h.Law) (q : h.state ≠ .holding) (f : h.frame = none) (seed : h.seed = false)
    (r : h.prep = false) : ({ h with state := .armed } : Hand).Law := by
  grind [Hand.Law]

theorem startRequest_hand (time : Option Word) {s : State} (l : HandInv s) : HandInv (startRequest time s).1 := by
  have begins (q : s.seq.state = .idle ∨ s.seq.state = .ended) (t : testInFlight s = false) :
      HandInv (beginOrArm time (startAccepted s)) := by
    have idle := Hand.Law.idle (h := handOf s) l (by rcases q with q | q <;> simp [handOf, q])
      (by rcases q with q | q <;> simp [handOf, q])
    rw [ne_eq, handOf_frame_run] at idle
    have f := HandInv.frame_none (by simpa using idle.1) t
    have l1 : HandInv (startAccepted s) := Hand.Law.restarted (h := handOf s) l (by simp [handOf, f])
    have q1 : (startAccepted s).seq.state ≠ .holding := by
      change s.seq.state ≠ _
      rcases q with q | q <;> simp [q]
    unfold beginOrArm
    split
    · exact runBegin_hand l1 q1 f rfl
    · split
      · exact runBegin_hand l1 q1 f rfl
      · exact powerCauseAtEntry_hand
          (Hand.Law.armed (h := handOf (startAccepted s)) l1 q1 (by simp [handOf, startAccepted, f]) rfl rfl)
  unfold startRequest
  split
  case h_5 q | h_6 q =>
    split
    · exact l
    case isFalse t =>
      split
      · exact l
      · split
        · exact l
        · exact begins (by simp [q]) (by simpa using t)
  all_goals exact l

theorem setClock_hand (seconds : Word) (ticks : Half) {s : State} (l : HandInv s) :
    HandInv (setClock seconds ticks s).1 := by
  unfold setClock
  dsimp only
  split
  case isTrue d => exact runBegin_armed_hand (s := s.modTb _) l (armedStartDue_state d)
  case isFalse => exact l

/-! ## STOP and HOLD -/

theorem stopRunning_hand {s : State} (l : HandInv s) (q : s.seq.state = .running) : HandInv (stopRunning s) := by
  have d := l.drain (by simp [q])
  have cancel {f : Frame} (h : s.cam.frame = some f) (b : BeforeExposing s.cam.phase) :
      HandInv (enterEnded (cancelFrame .stop s)) := by
    have e := handOf_cancelFrame .stop h
    refine enterEnded_hand (cancelFrame_hand .stop l h b) ?_ ?_
    · rw [← Bool.not_eq_true, ← handOf_frame_run, e]
      nofun
    · exact (congrArg Hand.drain e).trans d
  unfold stopRunning
  split
  · exact l
  · split
    case isTrue r =>
      obtain ⟨f, h, -⟩ := (frameInFlight_iff s).mp r
      split
      case h_1 p => exact cancel h (.inl p)
      case h_2 p => exact cancel h (.inr (.inl p))
      case h_3 p => exact cancel h (.inr (.inr (.inl p)))
      case h_4 p => exact cancel h (.inr (.inr (.inr p)))
      all_goals exact l
    case isFalse r => exact enterEnded_hand l (by simpa using r) d

theorem stopRequest_hand {s : State} (l : HandInv s) : HandInv (stopRequest s).1 := by
  have parked (q : s.seq.state = .armed ∨ s.seq.state = .hold) : HandInv (enterEnded s) :=
    enterEnded_hand l (frameInFlight_of_none (l.nothing_in_hand q).1) (l.nothing_in_hand q).2.1
  unfold stopRequest
  split
  case h_3 q => exact parked (.inl q)
  case h_4 q => exact parked (.inr q)
  case h_5 q => exact stopRunning_hand l q
  all_goals exact l

theorem holdRequest_hand {s : State} (l : HandInv s) : HandInv (holdRequest s).1 := by
  unfold holdRequest
  split
  case h_3 => exact causeArises_hand .host l
  case h_4 =>
    split
    · exact l
    · exact causeArises_hand .host l
  case h_5 | h_6 =>
    split
    · exact l
    · split <;> exact l
  all_goals exact l

/-! ## Preparation starts -/

theorem prepareFrame_hand (slot due iEff factor : Nat) {s : State} (l : HandInv s) (q : s.seq.state = .running)
    (seed : s.seq.awaitingSeed = false) : HandInv (prepareFrame slot due iEff factor s) :=
  takeMoments_hand (handFrame_hand _ (s := numberFrame due s) l ⟨.inl q, seed⟩)

/-- R42, R44: a grid's next preparation start is registered. -/
theorem nextIndex_hand {s : State} (l : HandInv s) (q : s.seq.state = .running) (seed : s.seq.awaitingSeed = false) :
    HandInv (nextIndex s) := Hand.Law.registered (h := handOf s) l (by simp [handOf, q]) seed

theorem Hand.Law.seed_of_registered {h : Hand} (l : h.Law) (r : h.prep = true) : h.seed = false := by
  grind [Hand.Law]

theorem preparationDue_spec {s : State} (d : preparationDue s = true) :
    s.seq.state = .running ∧ s.seq.prepRegistered = true := by
  unfold preparationDue at d
  split at d
  · simp only [Bool.and_eq_true, decide_eq_true_eq] at d
    exact d.1.1
  · cases d

/-- In RUNNING with no run frame in flight the camera has no frame. -/
theorem HandInv.frame_none_of_running {s : State} (l : HandInv s) (q : s.seq.state = .running)
    (f : frameInFlight s = false) : s.cam.frame = none := by
  have test := Hand.Law.no_test (h := handOf s) l (by simp [handOf, q]) (by simp [handOf, q])
  rw [ne_eq, handOf_frame_test] at test
  exact HandInv.frame_none f (by simpa using test)

theorem preparationStart_hand {s : State} (l : HandInv s) (d : preparationDue s = true) : HandInv (preparationStart s) := by
  obtain ⟨q, r⟩ := preparationDue_spec d
  have seed : s.seq.awaitingSeed = false := Hand.Law.seed_of_registered l r
  unfold preparationStart
  generalize hs1 : meterRequest .battery .power .down s = s1
  have e1 : handOf s1 = handOf s := by rw [← hs1, handOf_meterRequest]
  have l1 : HandInv s1 := by rwa [HandInv, e1]
  have q1 : s1.seq.state = .running := (congrArg Hand.state e1).trans q
  have seed1 : s1.seq.awaitingSeed = false := (congrArg Hand.seed e1).trans seed
  dsimp only
  split
  case h_2 => exact l1
  case h_1 g c _ _ =>
    split
    case isTrue => rw [HandInv, missOverrun, handOf_logWrite]; exact nextIndex_hand (s := numberFrame _ s1) l1 q1 seed1
    case isFalse f =>
      generalize hs2 : (if endsWithoutFrame _ = true then _ else s1 : State) = s2
      have w2 : Walkable s2 := by
        have w1 : Walkable s1 := ⟨l1, q1, seed1, l1.frame_none_of_running q1 (by simpa using f)⟩
        subst hs2
        split <;> exact w1
      obtain ⟨l2, q2, seed2, -⟩ := id w2
      split
      · exact walkNext_hand _ w2
      · exact prepareFrame_hand _ _ _ _ (nextIndex_hand l2 q2 seed2) q2 seed2

/-! ## Leaving HOLD -/

/-- R128, R135: HOLD left for RUNNING or ARMED. -/
theorem Hand.Law.left {h : Hand} (l : h.Law) (q : h.state = .hold) :
    ({ h with state := .armed, prep := false } : Hand).Law ∧ ({ h with state := .running, prep := false } : Hand).Law := by
  grind [Hand.Law]

theorem takeGap_walkable (h : HoldData) {s : State} (w : Walkable s) : Walkable (takeGap h s) := by
  have keeps (u : State) (e : handOf u = handOf s) (f : u.cam.frame = s.cam.frame) : Walkable u := by
    obtain ⟨l, q, seed, frame⟩ := w
    exact ⟨by rwa [HandInv, e], (congrArg Hand.state e).trans q, (congrArg Hand.seed e).trans seed, f.trans frame⟩
  unfold takeGap
  split
  · exact w
  · dsimp only
    split
    · exact keeps _ rfl rfl
    · rw [logWrite_eq]
      exact keeps _ rfl rfl

theorem retryFrame_hand (slot : Nat) (g : Grid) {s : State} (l : HandInv s) (q : s.seq.state = .running)
    (seed : s.seq.awaitingSeed = false) : HandInv (retryFrame slot g s) := by
  unfold retryFrame
  dsimp only
  obtain ⟨m, e⟩ := meterRequest_frame .battery .power .down (if g.nextDue ≤ now s + s.params.wakeLead then nextIndex s else s)
  rw [e]
  split
  · exact prepareFrame_hand _ _ _ _ (s := { nextIndex s with meter := m }) (nextIndex_hand l q seed) q seed
  · exact prepareFrame_hand _ _ _ _ (s := { s with meter := m }) l q seed

theorem continueHeld_hand (retry : Bool) (h : HoldData) {s : State} (w : Walkable s) : HandInv (continueHeld retry h s).1 := by
  have w1 : Walkable (restoreSegment h s) := w
  unfold continueHeld
  dsimp only
  split
  · exact w1.1
  case h_2 c _ =>
    split
    · exact walkNext_hand c.slot (s := noteEvaluation c.slot (restoreSegment h s)) w1
    · obtain ⟨l, q, seed, -⟩ := w
      have l3 : HandInv ((noteEvaluation c.slot (restoreSegment h s)).modSeq fun q => { q with prepRegistered := true }) :=
        Hand.Law.registered (h := handOf s) l (by simp [handOf, q]) seed
      split
      · split
        · exact retryFrame_hand _ _ l3 q seed
        · exact l3
      · exact l3

theorem leaveHold_hand (retry : Bool) (h : HoldData) {s : State} (l : HandInv s) (q : s.seq.state = .hold) :
    HandInv (leaveHold retry h s).1 := by
  obtain ⟨frame, -, seed⟩ := l.nothing_in_hand (.inr q)
  obtain ⟨armed, running⟩ := Hand.Law.left (h := handOf s) l q
  unfold leaveHold
  dsimp only
  split
  case h_1 =>
    split
    case isTrue => exact runBegin_armed_hand (s := State.modSeq (State.modSeq s _) _) armed rfl
    case isFalse => exact powerCauseAtEntry_hand (s := State.modSeq (State.modSeq s _) _) armed
  case h_2 =>
    have w := takeGap_walkable h (s := (s.modSeq fun q =>
      { q with hold := none, prepRegistered := false, stretchPending := false }).modSeq fun q => { q with state := .running })
      ⟨running, rfl, seed, frame⟩
    split
    · exact walkFrom_hand _ _ w
    · exact continueHeld_hand retry h w

theorem resumeRun_hand (retry : Bool) (h : HoldData) {s : State} (l : HandInv s) (q : s.seq.state = .hold) :
    HandInv (resumeRun retry h s).1 := by
  unfold resumeRun
  dsimp only
  split
  · exact l
  · exact leaveHold_hand retry h (s := State.modSeq (State.modCam s _) _) l q

theorem resumeRequest_hand (mode : Byte) {s : State} (l : HandInv s) : HandInv (resumeRequest mode s).1 := by
  unfold resumeRequest
  split
  case h_2 => exact l
  case h_1 h q _ =>
    split
    · exact l
    · split
      · exact l
      · exact resumeRun_hand _ h l q

theorem recoveryExpiry_hand {s : State} (l : HandInv s) : HandInv (recoveryExpiry s) := by
  unfold recoveryExpiry
  dsimp only
  split
  case h_2 => exact l
  case h_1 h q _ =>
    split
    · exact resumeRun_hand false h (s := s.modPow _) l q
    · exact l

theorem readResumeRecord_hand {s : State} (l : HandInv s) : HandInv (readResumeRecord s).1 := by
  unfold readResumeRecord
  split <;> exact l

theorem setResumePoint_hand (slot : Byte) (count : Half) {s : State} (l : HandInv s) :
    HandInv (setResumePoint slot count s).1 := by
  unfold setResumePoint
  split
  case h_2 => exact l
  case h_1 =>
    split
    · exact l
    · split <;> exact l

/-! ## COMMIT and TEST_SHOT -/

theorem Hand.Law.swapped {h : Hand} (l : h.Law) : ({ h with commit := false } : Hand).Law := by
  grind [Hand.Law]

/-- R17: a deferred commit waits behind the frame in flight. -/
theorem Hand.Law.deferred {h : Hand} (l : h.Law) (f : h.frame = some .run) : ({ h with commit := true } : Hand).Law := by
  grind [Hand.Law]

theorem commitNow_hand {s : State} (l : HandInv s) (f : s.seq.state = .running → frameInFlight s = false) :
    HandInv (commitNow s) := by
  have swapped : HandInv (swapBanks s) := Hand.Law.swapped (h := handOf s) l
  unfold commitNow
  split
  case h_1 q =>
    dsimp only
    split
    case isTrue c =>
      exact walkFrom_hand 0 0 (s := raiseAlert .commitDone (swapBanks s))
        ⟨swapped, q, c.2, l.frame_none_of_running q (f q)⟩
    case isFalse => exact swapped
  all_goals exact swapped

theorem commitRequest_hand {s : State} (l : HandInv s) : HandInv (commitRequest s).1 := by
  unfold commitRequest
  split
  · exact l
  · split
    · exact l
    · split
      · exact l
      · split
        · exact l
        · split
          · exact l
          · split
            case isTrue f => exact Hand.Law.deferred (h := handOf s) l ((handOf_frame_run s).mpr f.2)
            case isFalse f => exact commitNow_hand l fun q => by simpa using fun r => f ⟨q, r⟩

theorem testShotRequest_hand {s : State} (l : HandInv s) : HandInv (testShotRequest s).1 := by
  unfold testShotRequest
  split
  case h_5 q | h_6 q =>
    split
    case isTrue => exact l
    case isFalse busy =>
      split
      · exact l
      · have idle := Hand.Law.idle (h := handOf s) l (by simp [handOf, q]) (by simp [handOf, q])
        rw [ne_eq, handOf_frame_run] at idle
        exact beginTest_hand l (by simp [q])
          (HandInv.frame_none (by simpa using idle.1) (by simpa using fun t => busy (.inl t)))
  all_goals exact l

/-! ## The meter and the power monitor -/

theorem acceptSeed_hand (avg : Int) {s : State} (l : HandInv s) (f : s.cam.frame = none) : HandInv (acceptSeed avg s) := by
  have l1 : ({ handOf s with seed := false } : Hand).Law := by
    have l : (handOf s).Law := l
    generalize handOf s = h at l
    grind [Hand.Law]
  unfold acceptSeed
  dsimp only
  split
  case isTrue q => exact walkFrom_hand 0 0 (s := State.modSeq (State.modRamp (State.modMeter s _) _) _) ⟨l1, q, rfl, f⟩
  case isFalse => exact l1

theorem deliverFrame_hand (owner : Owner) (avg : Int) (dark : Bool) {s : State} (l : HandInv s) :
    HandInv (deliverFrame owner avg dark s) := by
  unfold deliverFrame
  split
  case h_1 =>
    split
    case h_1 f h =>
      split
      · exact l.changeFrame h
          (f' := { f with metered := some { value := avg, dark := dark, late := false }, meteringOpen := false }) rfl
      · exact l
    case h_2 => exact l
  case h_2 =>
    split
    case h_1 f h =>
      split
      · exact l.changeFrame h
          (f' := { f with metered := some { value := avg, dark := dark, late := false }, meteringOpen := false }) rfl
      · exact l
    case h_2 => exact l
  case h_3 =>
    split
    case isTrue a =>
      obtain ⟨-, -, -, -, -, -, -, -, seed, -⟩ := id l
      have f : s.cam.frame = none := by simpa [handOf] using (seed a.1).2.1
      exact acceptSeed_hand avg l f
    case isFalse => exact l
  all_goals exact l

theorem deliverHost_hand (data : ReplyData) {s : State} (l : HandInv s) : HandInv (deliverHost data s) := by
  unfold deliverHost
  split <;> exact l

theorem recoverySample_hand (v : Nat) {s : State} (l : HandInv s) : HandInv (recoverySample v s) := by
  unfold recoverySample
  split
  · split
    · split
      · split <;> exact l
      · exact l
    · exact l
  · exact l

theorem voltageToSequencer_hand (old new : Voltage) {s : State} (l : HandInv s) : HandInv (voltageToSequencer old new s) := by
  unfold voltageToSequencer
  split
  · exact l
  · exact causeArises_hand .power l
  · exact l

theorem voltageAlerts_hand (old new : Voltage) {s : State} (l : HandInv s) : HandInv (voltageAlerts old new s) := by
  unfold voltageAlerts
  split <;> exact l

theorem batterySample_hand (v : Nat) {s : State} (l : HandInv s) : HandInv (batterySample v s) := by
  unfold batterySample
  refine recoverySample_hand v ?_
  split
  · exact l
  · exact (settleLevels_kept _).law (voltageToSequencer_hand _ _ (voltageAlerts_hand _ _ (s := s.modPow _) l))

theorem solarCredit_hand (ma : Nat) {s : State} (l : HandInv s) : HandInv (solarCredit ma s) := by
  refine (settleLevels_kept _).law ?_
  rwa [handOf_modPow]

theorem deliver_hand (c : MeterClass) (job : JobRequest) (cal : Int) (r : JobResult) {s : State} (l : HandInv s) :
    HandInv (deliver c job cal r s) := by
  unfold deliver
  split
  · exact deliverFrame_hand _ _ _ l
  · exact deliverHost_hand _ l
  · exact batterySample_hand _ l
  · exact solarCredit_hand _ l
  · exact l
  · exact l

theorem endJob_hand (c : MeterClass) (job : JobRequest) (cal : Int) (r : JobResult) {s : State} (l : HandInv s) :
    HandInv (endJob c job cal r s) := deliver_hand c job cal r (s := s.modMeter _) l

theorem setCharge_hand (charge : Half) {s : State} (l : HandInv s) : HandInv (setCharge charge s).1 := by
  unfold setCharge
  dsimp only
  refine (settleLevels_kept _).law ?_
  rw [handOf_modPow]
  exact (accrual_kept s).law l

theorem periodicCompare_hand {s : State} (l : HandInv s) : HandInv (periodicCompare s) := by
  refine (accrual_kept _).law ?_
  rwa [handOf_meterRequest, handOf_meterRequest, handOf_modPow]

theorem heaterPeriodStart_hand {s : State} (l : HandInv s) : HandInv (heaterPeriodStart s) :=
  (setHeat_kept _ _).law (by rwa [handOf_modPow])

theorem heaterOffEdge_hand {s : State} (l : HandInv s) : HandInv (heaterOffEdge s) :=
  (setHeat_kept _ _).law (by rwa [handOf_modPow])

/-! ## The requests -/

theorem putSegment_hand (slot : Byte) (r : SegmentRecord) {s : State} (l : HandInv s) : HandInv (putSegment slot r s).1 := by
  unfold putSegment
  split
  · exact l
  · split
    · exact l
    · split
      · exact l
      · unfold HandInv handOf setStaged
        dsimp only [State.modProg]
        split <;> exact l

theorem clearStaged_hand {s : State} (l : HandInv s) : HandInv (clearStaged s).1 := by
  unfold clearStaged
  split
  · exact l
  · split
    · exact l
    · unfold HandInv handOf setStaged
      dsimp only [State.modProg]
      split <;> exact l

theorem readSegment_hand (slot selector : Byte) {s : State} (l : HandInv s) : HandInv (readSegment slot selector s).1 := by
  unfold readSegment
  split
  · exact l
  · split <;> exact l

theorem formDraw_hand {s : State} (l : HandInv s) : HandInv (formDraw s) := l

theorem storeParameter_hand (p : ParamId) (v : Int) {s : State} (l : HandInv s) : HandInv (storeParameter p v s) := by
  have put {u : State} (l : HandInv u) : HandInv (u.modParams fun q => storeParam q p v) := l
  unfold storeParameter
  dsimp only
  split
  · exact l
  · split
    · exact formDraw_hand (put ((accrual_kept s).law l))
    · split
      · exact (settleLevels_kept _).law (by rw [handOf_modPow]; exact put l)
      · split
        · exact put l
        · split
          · split
            · refine (keepOnTest_kept _).law ?_
              rw [handOf_of_levelsMoved (stretchChanged_moved _)]
              exact put l
            · exact put l
          · exact put l

theorem setParam_hand (id : Byte) (value : Word) {s : State} (l : HandInv s) : HandInv (setParam id value s).1 := by
  unfold setParam
  split
  · exact l
  · split
    · exact l
    · dsimp only
      split
      · exact l
      · unfold applyParameter
        split
        · exact l
        · exact storeParameter_hand _ _ l

theorem getParam_hand (id : Byte) {s : State} (l : HandInv s) : HandInv (getParam id s).1 := by
  unfold getParam
  split <;> exact l

theorem getStatus_hand (part : Byte) {s : State} (l : HandInv s) : HandInv (getStatus part s).1 := by
  unfold getStatus
  split
  · exact l
  · split
    · exact l
    · split
      · exact l
      · split <;> exact l

theorem setLinkSpeed_hand (code : Byte) {s : State} (l : HandInv s) : HandInv (setLinkSpeed code s).1 := by
  unfold setLinkSpeed
  split <;> exact l

theorem answerOf_hand {r : Request} {s : State} {a : Answer} (h : answerOf r s = some a) (l : HandInv s) : HandInv a.1 := by
  cases r <;> simp only [answerOf, Option.some.injEq, reduceCtorEq] at h <;> subst h
  case getStatus part => exact getStatus_hand part l
  case setClock seconds ticks => exact setClock_hand seconds ticks l
  case setParam id value => exact setParam_hand id value l
  case getParam id => exact getParam_hand id l
  case putSegment slot record => exact putSegment_hand slot record l
  case readSegment slot bank => exact readSegment_hand slot bank l
  case clearStaged => exact clearStaged_hand l
  case commit => exact commitRequest_hand l
  case start time => exact startRequest_hand time l
  case stop => exact stopRequest_hand l
  case hold => exact holdRequest_hand l
  case resume mode => exact resumeRequest_hand mode l
  case readResumeRecord => exact readResumeRecord_hand l
  case setResumePoint slot count => exact setResumePoint_hand slot count l
  case testShot => exact testShotRequest_hand l
  case setCharge charge => exact setCharge_hand charge l
  case setLinkSpeed code => exact setLinkSpeed_hand code l
  all_goals exact l

theorem executeRequest_hand (r : Request) {s : State} (l : HandInv s) : HandInv (executeRequest r s) := by
  have l1 : HandInv (s.modLine fun l => { l with executing := some r }) := l
  unfold executeRequest
  dsimp only
  split
  · rwa [HandInv, meterNow, handOf_meterRequest]
  case h_2 a => exact answerOf_hand a l1

/-! ## The line port -/

theorem validFrame_hand {s : State} (l : HandInv s) : HandInv (validFrame s) := by
  unfold validFrame
  split <;> exact l

theorem receive_hand (r : Request) {s : State} (l : HandInv s) : HandInv (receive r s) := by
  have l1 := validFrame_hand l
  unfold receive submit
  split
  · exact executeRequest_hand r l1
  · split <;> exact l1

theorem frameReceived_hand (kind : Byte) (payload : List Byte) (crc : Byte) {s : State} (l : HandInv s) :
    HandInv (frameReceived kind payload crc s) := by
  unfold frameReceived
  split
  · exact l
  · split
    · exact receive_hand _ (s := s.modLine clearAssembler) l
    · exact l

theorem stopBitError_hand (startedAgo lowFor : Nat) {s : State} (l : HandInv s) :
    HandInv (stopBitError startedAgo lowFor s) := by
  unfold stopBitError
  split <;> exact l

theorem switchSpeed_hand {s : State} (l : HandInv s) : HandInv (switchSpeed s) := by
  unfold switchSpeed
  split <;> exact l

theorem replySent_hand {s : State} (l : HandInv s) : HandInv (replySent s) := by
  have l1 := switchSpeed_hand (s := s.modLine fun l => { l with reply := none, executing := none }) l
  unfold replySent
  dsimp only
  split
  · exact l1
  · exact executeRequest_hand _ (s := State.modLine (switchSpeed _) _) l1

end Sys2Proof.Machine
end

section
/-! PROOFS. Every step keeps the camera laws: the end of an event restores the keep-on clause, and each command's meaning keeps
the others. -/

namespace Sys2Proof.Machine

/-! ## The keep-on clause -/

theorem keepOnOff_keepOn (s : State) : KeepOnLaw (keepOnOff s) := by
  unfold keepOnOff
  split
  case isTrue => exact nofun
  case isFalse h => exact fun p => by simpa using fun k => h ⟨p, k⟩

theorem settleLevels_keepOn (s : State) : KeepOnLaw (settleLevels s) := by
  unfold settleLevels formLevels
  exact keepOnOff_keepOn _

theorem accrual_keepOn (s : State) : KeepOnLaw (accrual s) := settleLevels_keepOn (accrue s)

theorem setHeat_keepOn (on : Bool) {s : State} (k : KeepOnLaw s) : KeepOnLaw (setHeat on s) := by
  unfold setHeat
  split
  · exact k
  · exact accrual_keepOn _

theorem setCore_keepOn (c : CoreState) {s : State} (k : KeepOnLaw s) : KeepOnLaw (setCore c s) := by
  unfold setCore
  split
  · exact k
  · exact accrual_keepOn _

theorem keepOnTest_keepOn (s : State) : KeepOnLaw (keepOnTest s) := by
  unfold keepOnTest
  split
  case isTrue => exact settleLevels_keepOn _
  case isFalse h => exact fun p => by simpa using fun k => h ⟨p, k⟩

theorem KeepOnLaw.running {s : State} (k : KeepOnLaw s) (p : s.cam.phase = .idleOn) : s.seq.state = .running := by
  have k := k p
  simp only [keepOnHolds, Bool.and_eq_true, decide_eq_true_eq] at k
  exact k.1.1.1

theorem holdCheck_keepOn {s : State} (k : KeepOnLaw s) : KeepOnLaw (holdCheck s) := by
  by_cases p : s.cam.phase = .idleOn
  · rwa [holdCheck, if_neg fun h => by simp [k.running p] at h]
  · obtain ⟨q, a, e⟩ := holdCheck_frame s
    exact fun p' => absurd p' (by rw [e]; exact p)

theorem heaterLost_keepOn {s : State} (k : KeepOnLaw s) : KeepOnLaw (heaterLost s) := setHeat_keepOn false (s := s.modPow _) k

theorem heaterForm_keepOn {s : State} (k : KeepOnLaw s) : KeepOnLaw (heaterForm s) := by
  unfold heaterForm
  split
  · exact k
  · split
    · obtain ⟨m, e⟩ := meterRequest_frame .temperature .power .down (s.modPow fun p =>
        { p with
          eligible := true, duty := 0, pendingDuty := 0
          temperatureAt := some (now s + 16384), heatPeriodAt := some (periodFrom (now s)), heatOffAt := none })
      rw [heaterGained, e]
      exact k
    · exact heaterLost_keepOn k

theorem serveMeter_keepOn (s0 : State) {s : State} (k : KeepOnLaw s) : KeepOnLaw (serveMeter s0 s) := by
  obtain ⟨m, n, e⟩ := serveMeter_frame s0 s
  rw [e]
  exact k

theorem coreForm_keepOn (s0 : State) {s : State} (k : KeepOnLaw s) : KeepOnLaw (coreForm s0 s) := by
  unfold coreForm
  split
  · exact k
  · exact setCore_keepOn _ k

theorem heaterDrop_keepOn {s : State} (k : KeepOnLaw s) : KeepOnLaw (heaterDrop s) := by
  unfold heaterDrop
  split
  · exact heaterLost_keepOn k
  · exact k

theorem recoveryForm_keepOn {s : State} (k : KeepOnLaw s) : KeepOnLaw (recoveryForm s) := by
  unfold recoveryForm
  split <;> exact k

/-- R117: at the end of an event a camera kept on is kept on by its conditions. -/
theorem endEvent_keepOn (s0 s : State) : KeepOnLaw (endEvent s0 s) :=
  recoveryForm_keepOn (heaterDrop_keepOn (coreForm_keepOn s0 (serveMeter_keepOn s0 (heaterForm_keepOn
    (holdCheck_keepOn (keepOnTest_keepOn s))))))

/-! ## The end of an event -/

theorem heaterLost_kept (s : State) : (handOf s).Kept (handOf (heaterLost s)) := setHeat_kept false (s.modPow _)

theorem heaterForm_kept (s : State) : (handOf s).Kept (handOf (heaterForm s)) := by
  unfold heaterForm
  split
  · exact .inl rfl
  · split
    · exact .inl (by rw [heaterGained, handOf_meterRequest, handOf_modPow])
    · exact heaterLost_kept s

theorem handOf_serveMeter (s0 s : State) : handOf (serveMeter s0 s) = handOf s := by
  obtain ⟨m, n, e⟩ := serveMeter_frame s0 s
  rw [e]
  rfl

theorem coreForm_kept (s0 s : State) : (handOf s).Kept (handOf (coreForm s0 s)) := by
  unfold coreForm
  split
  · exact .inl rfl
  · exact setCore_kept _ s

theorem heaterDrop_kept (s : State) : (handOf s).Kept (handOf (heaterDrop s)) := by
  unfold heaterDrop
  split
  · exact heaterLost_kept s
  · exact .inl rfl

theorem handOf_recoveryForm (s : State) : handOf (recoveryForm s) = handOf s := by
  obtain ⟨p, e⟩ := recoveryForm_frame s
  rw [e]
  rfl

theorem endEvent_hand (s0 : State) {s : State} (l : HandInv s) : HandInv (endEvent s0 s) := by
  have l1 := holdCheck_hand ((keepOnTest_kept s).law l)
  have l2 := (heaterForm_kept _).law l1
  have l3 := (coreForm_kept s0 _).law (handOf_serveMeter s0 _ ▸ l2)
  have l4 := (heaterDrop_kept _).law l3
  change (handOf (recoveryForm _)).Law
  rwa [handOf_recoveryForm]

theorem endEvent_camera (s0 : State) {s : State} (l : HandInv s) : CameraInv (endEvent s0 s) :=
  (cameraInv_iff _).mpr ⟨endEvent_hand s0 l, endEvent_keepOn s0 s⟩

theorem event_camera {occasion : Bool} {op : State → State} {s : State} (l : CameraInv s)
    (keeps : occasion = true → HandInv s → HandInv (op s)) : CameraInv (event occasion op s) := by
  unfold event
  split
  case isTrue o => exact endEvent_camera s (keeps o ((cameraInv_iff s).mp l).1)
  case isFalse => exact l

/-! ## Resets and ticks -/

theorem Hand.reset_law :
    (Hand.mk .idle false false .off none false false false false .idle false).Law := by
  simp [Hand.Law]

theorem powerOnReset_camera (s : State) : CameraInv (powerOnReset s) :=
  (cameraInv_iff _).mpr ⟨Hand.reset_law, nofun⟩

theorem pinReset_camera (s : State) : CameraInv (pinReset s) :=
  (cameraInv_iff _).mpr ⟨Hand.reset_law, nofun⟩

theorem tick_camera {s : State} (l : CameraInv s) : CameraInv (tick s) := by
  rw [cameraInv_iff] at l ⊢
  exact l

/-! ## Commands -/

/-- A request row hands its request to the command slots and ends the event (R189). -/
theorem exec_of_request {c : Instr} {r : Request} (h : requestOf c = some r) (s : State) :
    exec c s = .next (endEvent s (receive r s)) := by
  cases c <;> cases h <;> rfl

/-- CONVERTER_JOB_END has no effect, or ends the running job and the event (R50, entry 25). -/
theorem exec_converterJobEnd (codes : List Code) (s : State) :
    exec (.converterJobEnd codes) s = .next s ∨
      ∃ c job cal r, jobEnding codes s = some (c, job, cal, r) ∧
        exec (.converterJobEnd codes) s = .next (endEvent s (endJob c job cal r s)) := by
  cases h : jobEnding codes s with
  | none => exact .inl (by simp only [exec, execConverterJobEnd, h])
  | some j =>
    obtain ⟨c, job, cal, r⟩ := j
    exact .inr ⟨c, job, cal, r, rfl, by simp only [exec, execConverterJobEnd, h]⟩

theorem exec_event_camera {c : Instr} {s t : State} (e : requestOf c = none) (l : CameraInv s) (h : exec c s = .next t) :
    CameraInv t := by
  have phase {p : Phase} {o : Bool} (d : (decide (s.cam.phase = p) && o) = true) : s.cam.phase = p := by
    simp only [Bool.and_eq_true, decide_eq_true_eq] at d
    exact d.1
  cases c <;> simp only [requestOf, reduceCtorEq] at e
  case converterJobEnd codes =>
    rcases exec_converterJobEnd codes s with j | ⟨c, job, cal, r, -, j⟩ <;> cases j.symm.trans h
    · exact l
    · exact endEvent_camera s (endJob_hand c job cal r ((cameraInv_iff s).mp l).1)
  all_goals
    injection h with h
    subst h
  case powerOnReset => exact powerOnReset_camera s
  case pinReset => exact pinReset_camera s
  case frameReceived kind payload crc => exact event_camera l fun _ => frameReceived_hand kind payload crc
  case stopBitError startedAgo lowFor => exact event_camera l fun _ => stopBitError_hand startedAgo lowFor
  case replySent => exact event_camera l fun _ => replySent_hand
  case armedStartReached => exact event_camera l fun d h => runBegin_armed_hand h (armedStartDue_state d)
  case preparationStart => exact event_camera l fun d h => preparationStart_hand h d
  case meterLead => exact event_camera l fun d h => meterLead_hand h d
  case settingLead => exact event_camera l fun d h => settingLead_hand h d
  case focusLead => exact event_camera l fun d h => focusLead_hand h d
  case dueTime => exact event_camera l fun d h => dueTime_hand h d
  case settingRecordSent => exact event_camera l fun _ => settingRecordSent_hand
  case replyLeadByte => exact event_camera l fun _ => replyLeadByte_hand
  case accessoryByteError => exact event_camera l fun _ => accessoryByteError_hand
  case replyRecord status mode shutter gain checksum =>
    exact event_camera l fun _ => replyRecord_hand status mode shutter gain checksum
  case replyWindowExpiry =>
    refine event_camera l fun d h => closeExchange_hand _ _ h (h.setting_of_open ?_)
    simp only [replyWindowDue, exchangeOpen, Bool.and_eq_true] at d
    simpa using d.1
  case shutterHoldExpiry => exact event_camera l fun d h => shutterHoldExpiry_hand h (phase d)
  case syncClosure => exact event_camera l fun _ => syncClosure_hand
  case syncWindowExpiry => exact event_camera l fun _ => syncWindowExpiry_hand
  case readyChange rise => exact event_camera l fun _ => readyChange_hand rise
  case dropWatchExpiry => exact event_camera l fun _ => completeWrite_hand
  case writeTimeout => exact event_camera l fun d h => writeTimeout_hand h (phase d)
  case cooldownEnd => exact event_camera l fun _ => cooldownEnd_hand
  case recoveryTimerExpiry => exact event_camera l fun _ => recoveryExpiry_hand
  case periodicCompare => exact event_camera l fun _ => periodicCompare_hand
  case temperatureCompare => exact event_camera l fun _ h => by rwa [HandInv, temperatureCompare, handOf_meterRequest]
  case heaterPeriodStart => exact event_camera l fun _ => heaterPeriodStart_hand
  case heaterOffEdge => exact event_camera l fun _ => heaterOffEdge_hand
  -- The other events of the host line reach the line port alone.
  all_goals exact event_camera l fun _ h => h

theorem exec_camera {c : Instr} {s t : State} (l : CameraInv s) (h : exec c s = .next t) : CameraInv t := by
  cases req : requestOf c with
  | some r =>
    cases (exec_of_request req s).symm.trans h
    exact endEvent_camera s (receive_hand r ((cameraInv_iff s).mp l).1)
  | none => exact exec_event_camera req l h

/-! ## The step -/

/-- What every command and every tick keep, and no change of the queue or of the counter of choices can break, every step
keeps. -/
theorem step_keeps {I : State → Prop} (queue : ∀ s p n, I s → I { s with pending := p, choices := n })
    (ticks : ∀ s, I s → I (tick s)) (runs : ∀ c s t, I s → exec c s = .next t → I t) {s t : State} (l : I s)
    (h : step s = .next t) : I t := by
  unfold step at h
  split at h
  case h_1 c rest _ => exact runs c _ _ (queue s rest s.choices l) h
  case h_2 =>
    unfold idleStep at h
    split at h
    case h_1 =>
      cases h
      exact ticks s l
    case h_2 c _ => exact runs c s t l h
    case h_3 => exact runs _ _ _ (queue s s.pending (s.choices + 1) l) h

theorem queue_camera (s : State) (p : List Instr) (n : Nat) (l : CameraInv s) :
    CameraInv { s with pending := p, choices := n } := by
  rw [cameraInv_iff] at l ⊢
  exact l

/-- Settles O59: the camera laws are kept by every step, as laws of what is in hand and the keep-on clause, and the parked law
follows from them. -/
theorem everyStepKeepsTheCameraLaws : Obligations.EveryStepKeepsTheCameraLaws :=
  ⟨fun _ _ => step_keeps queue_camera (fun _ => tick_camera) (fun _ _ _ => exec_camera), fun _ => parkedLaw_of_cameraInv⟩

end Sys2Proof.Machine
end

section
/-! PROOFS. What requests store: the parameters, the banks' contents and the two command slots. The operations of the run, the
camera, the meter and the power monitor leave all of it (R1, R189, R196). -/

namespace Sys2Proof.Machine

/-- What the stored laws speak of: the parameters, the content of both banks, the two command slots. -/
structure Stored where
  params : Params
  bankA : Bank
  bankB : Bank
  executing : Option Request
  held : Option Request

def storedOf (s : State) : Stored :=
  { params := s.params, bankA := s.prog.bankA, bankB := s.prog.bankB, executing := s.line.executing, held := s.line.held }

/-! ## Shared operations -/

@[simp] theorem storedOf_modTb (s : State) (f : Timebase → Timebase) : storedOf (s.modTb f) = storedOf s := rfl
@[simp] theorem storedOf_modSeq (s : State) (f : Sequencer → Sequencer) : storedOf (s.modSeq f) = storedOf s := rfl
@[simp] theorem storedOf_modMeter (s : State) (f : Meter → Meter) : storedOf (s.modMeter f) = storedOf s := rfl
@[simp] theorem storedOf_modRamp (s : State) (f : Ramp → Ramp) : storedOf (s.modRamp f) = storedOf s := rfl
@[simp] theorem storedOf_modCam (s : State) (f : Camera → Camera) : storedOf (s.modCam f) = storedOf s := rfl
@[simp] theorem storedOf_modPow (s : State) (f : Power → Power) : storedOf (s.modPow f) = storedOf s := rfl
@[simp] theorem storedOf_modLog (s : State) (f : FrameLog → FrameLog) : storedOf (s.modLog f) = storedOf s := rfl
@[simp] theorem storedOf_raiseAlert (a : Alert) (s : State) : storedOf (raiseAlert a s) = storedOf s := rfl
@[simp] theorem storedOf_addSticky (x : Half) (s : State) : storedOf (addSticky x s) = storedOf s := rfl
@[simp] theorem storedOf_swapBanks (s : State) : storedOf (swapBanks s) = storedOf s := rfl

theorem storedOf_formedFrom {s t : State} (h : FormedFrom s t) : storedOf t = storedOf s := by
  obtain ⟨_, _, _, _, _, _, _, rfl⟩ := h
  rfl

@[simp] theorem storedOf_endEvent (s0 s : State) : storedOf (endEvent s0 s) = storedOf s :=
  storedOf_formedFrom (endEvent_formed s0 s)

@[simp] theorem storedOf_holdCheck (s : State) : storedOf (holdCheck s) = storedOf s :=
  storedOf_formedFrom (holdCheck_formed s)

@[simp] theorem storedOf_keepOnTest (s : State) : storedOf (keepOnTest s) = storedOf s :=
  storedOf_formedFrom (keepOnTest_formed s)

@[simp] theorem storedOf_meterRequest (c : MeterClass) (o : Owner) (r : Rounding) (s : State) :
    storedOf (meterRequest c o r s) = storedOf s := by
  obtain ⟨_, e⟩ := meterRequest_frame c o r s
  rw [e]
  rfl

@[simp] theorem storedOf_reanchor (s : State) : storedOf (reanchor s) = storedOf s := by
  obtain ⟨_, e⟩ := reanchor_frame s
  rw [e]
  rfl

@[simp] theorem storedOf_stretchChanged (s : State) : storedOf (stretchChanged s) = storedOf s := by
  obtain ⟨_, e⟩ := stretchChanged_frame s
  rw [e]
  rfl

@[simp] theorem storedOf_settleLevels (s : State) : storedOf (settleLevels s) = storedOf s := by
  obtain ⟨_, _, _, e⟩ := settleLevels_frame s
  rw [e]
  rfl

@[simp] theorem storedOf_accrual (s : State) : storedOf (accrual s) = storedOf s := by
  obtain ⟨_, _, _, e⟩ := accrual_frame s
  rw [e]
  rfl

@[simp] theorem storedOf_setCamPower (on : Bool) (s : State) : storedOf (setCamPower on s) = storedOf s := by
  obtain ⟨_, _, _, e⟩ := setCamPower_frame on s
  rw [e]
  rfl

@[simp] theorem storedOf_setHeat (on : Bool) (s : State) : storedOf (setHeat on s) = storedOf s := by
  obtain ⟨_, _, _, e⟩ := setHeat_frame on s
  rw [e]
  rfl

@[simp] theorem storedOf_chargeFrame (s : State) : storedOf (chargeFrame s) = storedOf s := by
  rw [chargeFrame, storedOf_settleLevels, storedOf_modPow]

@[simp] theorem storedOf_logWrite (r : LogRecord) (s : State) : storedOf (logWrite r s) = storedOf s := by
  rw [logWrite_eq]
  rfl

/-! ## Hold, walk, boundary -/

/-- R15: a swap exchanges the roles, and no slot changes. -/
@[simp] theorem storedOf_boundaryBook (r : Report) (s : State) : storedOf (boundaryBook r s) = storedOf s := by
  rw [boundaryBook_eq]
  cases c : s.prog.commitPending
  · simp [storedOf, resolved_of_not_pending c]
  · simp [storedOf, resolved_of_pending c]

@[simp] theorem storedOf_cancelFrame (c : RecordCause) (s : State) : storedOf (cancelFrame c s) = storedOf s := by
  unfold cancelFrame cancelCamera
  split
  · split <;> simp
  · simp

@[simp] theorem storedOf_demandHold (s : State) : storedOf (demandHold s) = storedOf s := by
  unfold demandHold
  split
  · simp
  · split <;> simp [cutFrame, beginWriting]

@[simp] theorem storedOf_holdEntry (c : HoldCause) (p : HoldPoint) (s : State) : storedOf (holdEntry c p s) = storedOf s := by
  simp [holdEntry]

@[simp] theorem storedOf_causeArises (c : HoldCause) (s : State) : storedOf (causeArises c s) = storedOf s := by
  unfold causeArises offerLatch
  split
  case h_2 | h_3 => split <;> simp
  all_goals simp

@[simp] theorem storedOf_powerCauseAtEntry (s : State) : storedOf (powerCauseAtEntry s) = storedOf s := by
  unfold powerCauseAtEntry
  split <;> simp

@[simp] theorem storedOf_walk (fuel slot count : Nat) (s : State) : storedOf (walk fuel slot count s) = storedOf s := by
  induction fuel generalizing slot count s with
  | zero => simp [walk]
  | succ fuel ih =>
    unfold walk
    dsimp only
    split
    · simp
    · generalize hs2 : (if gateTrue _ _ = true then _ else _ : State) = s2
      have e : storedOf s2 = storedOf s := by
        subst hs2
        split <;> simp
      split
      · simpa [anchorGrid] using e
      · split
        · rw [ih, e]
        · rw [ih, e]
        · simpa [programEnded, enterEnded] using e

@[simp] theorem storedOf_walkFrom (slot count : Nat) (s : State) : storedOf (walkFrom slot count s) = storedOf s :=
  storedOf_walk 24 slot count s

@[simp] theorem storedOf_walkNext (slot : Nat) (s : State) : storedOf (walkNext slot s) = storedOf s := by
  unfold walkNext
  split <;> simp [programEnded, enterEnded]

@[simp] theorem storedOf_noteEvaluation (slot : Nat) (s : State) : storedOf (noteEvaluation slot s) = storedOf s := rfl

@[simp] theorem storedOf_evaluateAtBoundary (s : State) : storedOf (evaluateAtBoundary s) = storedOf s := by
  unfold evaluateAtBoundary
  split
  · rfl
  · dsimp only
    split
    · simp
    · split <;> simp

@[simp] theorem storedOf_frameBoundary (r : Report) (s : State) : storedOf (frameBoundary r s) = storedOf s := by
  unfold frameBoundary
  dsimp only
  split
  case h_1 =>
    split
    · simp [enterEnded]
    · split
      · simp
      · split <;> simp
  case h_2 => split <;> simp [offerLatch]
  all_goals simp

/-! ## The camera controller -/

@[simp] theorem storedOf_updateFaults (o : Outcome) (timeout : Bool) (s : State) :
    storedOf (updateFaults o timeout s) = storedOf s := by
  unfold updateFaults addFault
  split <;> try simp
  split <;> simp

@[simp] theorem storedOf_reportOutcome (o : Outcome) (c : RecordCause) (timeout : Bool) (v : Int) (f : Frame) (s : State) :
    storedOf (reportOutcome o c timeout v f s) = storedOf s := by
  unfold reportOutcome writeTest
  split <;> simp

@[simp] theorem storedOf_settlePower (f : Frame) (s : State) : storedOf (settlePower f s) = storedOf s := by
  unfold settlePower
  split <;> simp

@[simp] theorem storedOf_frameOutcome (timeout : Bool) (f : Frame) (s : State) :
    storedOf (frameOutcome timeout f s) = storedOf s := by
  unfold frameOutcome
  dsimp only
  split <;> simp

@[simp] theorem storedOf_settleIfReady (s : State) : storedOf (settleIfReady s) = storedOf s := by
  unfold settleIfReady endDrain
  split <;> split <;> simp

@[simp] theorem storedOf_completeWrite (s : State) : storedOf (completeWrite s) = storedOf s := by simp [completeWrite]

@[simp] theorem storedOf_readyChange (rise : Bool) (s : State) : storedOf (readyChange rise s) = storedOf s := by
  unfold readyChange
  split
  · rfl
  · dsimp only
    split
    · split <;> simp
    · simp

@[simp] theorem storedOf_syncClosure (s : State) : storedOf (syncClosure s) = storedOf s := by
  unfold syncClosure
  dsimp only
  split
  · split <;> simp
  · simp

@[simp] theorem storedOf_writeTimeout (s : State) : storedOf (writeTimeout s) = storedOf s := by
  unfold writeTimeout coolDown
  split <;> simp

@[simp] theorem storedOf_cooldownEnd (s : State) : storedOf (cooldownEnd s) = storedOf s := by
  unfold cooldownEnd
  dsimp only
  split <;> simp

@[simp] theorem storedOf_closeExchange (r : ExchangeResult) (x : Half) (s : State) :
    storedOf (closeExchange r x s) = storedOf s := by
  unfold closeExchange
  split
  · simp
  · split
    · simp
    · dsimp only
      split <;> simp

@[simp] theorem storedOf_replyRecord (status mode shutter gain checksum : Byte) (s : State) :
    storedOf (replyRecord status mode shutter gain checksum s) = storedOf s := by
  unfold replyRecord judgeReply
  split
  · split
    · simp
    · split
      · simp
      · split
        · simp
        · dsimp only
          split <;> simp
  · rfl

@[simp] theorem storedOf_dueTime (s : State) : storedOf (dueTime s) = storedOf s := by
  unfold dueTime openShutter
  dsimp only
  split <;> split <;> simp

@[simp] theorem storedOf_focusLead (s : State) : storedOf (focusLead s) = storedOf s := rfl

@[simp] theorem storedOf_requestMetering (s : State) : storedOf (requestMetering s) = storedOf s := by
  unfold requestMetering
  split <;> simp

@[simp] theorem storedOf_meterLead (s : State) : storedOf (meterLead s) = storedOf s := storedOf_requestMetering s

@[simp] theorem storedOf_leaveComputation (f : Frame) (link : Bool) (e : Exposure) (s : State) :
    storedOf (leaveComputation f link e s) = storedOf s := by
  unfold leaveComputation openExchange
  dsimp only
  split <;> simp

@[simp] theorem storedOf_settingLead (s : State) : storedOf (settingLead s) = storedOf s := by
  unfold settingLead computeRun computeTest readinessFailure
  split
  · rfl
  · dsimp only
    split
    · split
      · split <;> simp
      · simp
    · simp

theorem storedOf_serveIf (due : State → Bool) {op : State → State} (h : ∀ s, storedOf (op s) = storedOf s) (s : State) :
    storedOf (serveIf due op s) = storedOf s := by
  unfold serveIf
  split
  · exact h s
  · rfl

@[simp] theorem storedOf_takeMoments (s : State) : storedOf (takeMoments s) = storedOf s := by
  unfold takeMoments
  rw [storedOf_serveIf _ storedOf_dueTime, storedOf_serveIf _ storedOf_focusLead, storedOf_serveIf _ storedOf_settingLead,
    storedOf_serveIf _ storedOf_meterLead]

@[simp] theorem storedOf_handFrame (f : Frame) (s : State) : storedOf (handFrame f s) = storedOf s := by
  unfold handFrame
  split <;> simp

/-! ## The sequencer -/

@[simp] theorem storedOf_runBegin (s : State) : storedOf (runBegin s) = storedOf s := by simp [runBegin]

@[simp] theorem storedOf_startRequest (time : Option Word) (s : State) : storedOf (startRequest time s).1 = storedOf s := by
  have begins : storedOf (beginOrArm time (startAccepted s)) = storedOf s := by
    unfold beginOrArm
    split
    · simp [startAccepted]
    · split <;> simp [startAccepted]
  unfold startRequest
  split
  case h_5 | h_6 =>
    split
    · rfl
    · split
      · rfl
      · split
        · rfl
        · exact begins
  all_goals rfl

@[simp] theorem storedOf_setClock (seconds : Word) (ticks : Half) (s : State) :
    storedOf (setClock seconds ticks s).1 = storedOf s := by
  unfold setClock
  dsimp only
  split <;> simp

@[simp] theorem storedOf_stopRequest (s : State) : storedOf (stopRequest s).1 = storedOf s := by
  unfold stopRequest stopRunning
  split
  case h_5 =>
    dsimp only
    split
    · rfl
    · split
      · split <;> simp [enterEnded]
      · simp [enterEnded]
  all_goals simp [refuse, enterEnded]

@[simp] theorem storedOf_holdRequest (s : State) : storedOf (holdRequest s).1 = storedOf s := by
  unfold holdRequest
  split
  case h_3 => simp
  case h_4 => split <;> simp [refuse]
  case h_5 | h_6 =>
    split
    · rfl
    · split <;> simp [refuse, offerLatch]
  all_goals rfl

@[simp] theorem storedOf_prepareFrame (slot due iEff factor : Nat) (s : State) :
    storedOf (prepareFrame slot due iEff factor s) = storedOf s := by
  simp [prepareFrame, numberFrame]

@[simp] theorem storedOf_preparationStart (s : State) : storedOf (preparationStart s) = storedOf s := by
  unfold preparationStart missOverrun
  dsimp only
  split
  · split
    · simp [nextIndex, numberFrame]
    · split <;> split <;> simp [nextIndex]
  · simp

@[simp] theorem storedOf_continueHeld (retry : Bool) (h : HoldData) (s : State) :
    storedOf (continueHeld retry h s).1 = storedOf s := by
  have e : storedOf (restoreSegment h s) = storedOf s := rfl
  unfold continueHeld retryFrame
  dsimp only
  split
  · exact e
  · split
    · simpa using e
    · split
      · split
        · split <;> simpa [nextIndex] using e
        · simpa using e
      · simpa using e

@[simp] theorem storedOf_takeGap (h : HoldData) (s : State) : storedOf (takeGap h s) = storedOf s := by
  unfold takeGap
  split
  · rfl
  · dsimp only
    split <;> simp

@[simp] theorem storedOf_leaveHold (retry : Bool) (h : HoldData) (s : State) : storedOf (leaveHold retry h s).1 = storedOf s := by
  unfold leaveHold
  dsimp only
  split
  · split <;> simp
  · split <;> simp

@[simp] theorem storedOf_resumeRun (retry : Bool) (h : HoldData) (s : State) : storedOf (resumeRun retry h s).1 = storedOf s := by
  unfold resumeRun
  dsimp only
  split <;> simp

@[simp] theorem storedOf_resumeRequest (mode : Byte) (s : State) : storedOf (resumeRequest mode s).1 = storedOf s := by
  unfold resumeRequest
  split
  · split
    · rfl
    · split <;> simp [refuse]
  · rfl

@[simp] theorem storedOf_recoveryExpiry (s : State) : storedOf (recoveryExpiry s) = storedOf s := by
  unfold recoveryExpiry
  dsimp only
  split
  · split <;> simp
  · simp

@[simp] theorem storedOf_readResumeRecord (s : State) : storedOf (readResumeRecord s).1 = storedOf s := by
  unfold readResumeRecord
  split <;> rfl

@[simp] theorem storedOf_setResumePoint (slot : Byte) (count : Half) (s : State) :
    storedOf (setResumePoint slot count s).1 = storedOf s := by
  unfold setResumePoint
  split
  · split
    · rfl
    · split <;> rfl
  · rfl

@[simp] theorem storedOf_commitRequest (s : State) : storedOf (commitRequest s).1 = storedOf s := by
  have now : storedOf (commitNow s) = storedOf s := by
    unfold commitNow
    split
    · dsimp only
      split <;> simp
    all_goals simp
  unfold commitRequest
  split
  · rfl
  · split
    · rfl
    · split
      · rfl
      · split
        · rfl
        · split
          · rfl
          · split
            · rfl
            · exact now

@[simp] theorem storedOf_testShotRequest (s : State) : storedOf (testShotRequest s).1 = storedOf s := by
  unfold testShotRequest beginTest
  split
  case h_5 | h_6 =>
    split
    · rfl
    · split <;> simp
  all_goals rfl

/-! ## The meter and the power monitor -/

@[simp] theorem storedOf_deliverFrame (owner : Owner) (avg : Int) (dark : Bool) (s : State) :
    storedOf (deliverFrame owner avg dark s) = storedOf s := by
  unfold deliverFrame acceptFrame acceptTest acceptSeed
  split
  case h_1 | h_2 =>
    split
    · split <;> simp
    · rfl
  case h_3 =>
    split
    · dsimp only
      split <;> simp
    · rfl
  all_goals rfl

@[simp] theorem storedOf_deliverHost (data : ReplyData) (s : State) : storedOf (deliverHost data s) = storedOf s := by
  unfold deliverHost
  split <;> rfl

@[simp] theorem storedOf_recoverySample (v : Nat) (s : State) : storedOf (recoverySample v s) = storedOf s := by
  unfold recoverySample
  split
  · split
    · split
      · split <;> simp
      · simp
    · rfl
  · rfl

@[simp] theorem storedOf_batterySample (v : Nat) (s : State) : storedOf (batterySample v s) = storedOf s := by
  have alerts (old new : Voltage) (u : State) : storedOf (voltageAlerts old new u) = storedOf u := by
    unfold voltageAlerts
    split <;> simp
  have hands (old new : Voltage) (u : State) : storedOf (voltageToSequencer old new u) = storedOf u := by
    unfold voltageToSequencer discardLatchedPower
    split <;> simp
  unfold batterySample
  dsimp only
  split <;> simp [alerts, hands]

@[simp] theorem storedOf_endJob (c : MeterClass) (job : JobRequest) (cal : Int) (r : JobResult) (s : State) :
    storedOf (endJob c job cal r s) = storedOf s := by
  unfold endJob deliver solarCredit temperatureResult
  split <;> simp

@[simp] theorem storedOf_setCharge (charge : Half) (s : State) : storedOf (setCharge charge s).1 = storedOf s := by
  simp [setCharge]

end Sys2Proof.Machine
end

section
/-! PROOFS. Every step keeps what requests store within its ranges: SET_PARAM by the table of R196, PUT_SEGMENT by the
checks and the clamping of R9 and R10. -/

namespace Sys2Proof.Machine

/-! ## Clamping -/

theorem clampInt_mem {lo hi : Int} (h : lo ≤ hi) (v : Int) : lo ≤ clampInt lo hi v ∧ clampInt lo hi v ≤ hi := by
  unfold clampInt
  split <;> (try split) <;> omega

theorem clampInt_eq {lo hi : Int} (h : lo ≤ hi) (v : Int) : clampInt lo hi v = max lo (min hi v) := by
  unfold clampInt
  split <;> (try split) <;> omega

theorem clampNat_mem {lo hi : Nat} (h : lo ≤ hi) (v : Nat) : lo ≤ clampNat lo hi v ∧ clampNat lo hi v ≤ hi := by
  unfold clampNat
  split <;> (try split) <;> omega

theorem clampNat_eq {lo hi : Nat} (h : lo ≤ hi) (v : Nat) : clampNat lo hi v = max lo (min hi v) := by
  unfold clampNat
  split <;> (try split) <;> omega

theorem clampUnsigned_toNat {lo hi : Nat} (h : lo ≤ hi) (b : hi < 2 ^ 32) (v : Word) :
    (clampUnsigned lo hi v).toNat = max lo (min hi v.toNat) := by
  have lo' : lo % 2 ^ 32 = lo := Nat.mod_eq_of_lt (by omega)
  have hi' : hi % 2 ^ 32 = hi := Nat.mod_eq_of_lt b
  unfold clampUnsigned
  split
  · rw [BitVec.toNat_ofNat, lo']
    omega
  · split
    · rw [BitVec.toNat_ofNat, hi']
      omega
    · omega

/-- A light threshold of R4, read back as it was clamped. -/
theorem clampLight_toInt (v : Word) : (BitVec.ofInt 32 (clampInt (-256) 383 v.toInt)).toInt = max (-256) (min 383 v.toInt) := by
  have mem := clampInt_mem (lo := -256) (hi := 383) (by decide) v.toInt
  rw [BitVec.toInt_ofInt, Int.bmod_eq_of_le (by omega) (by omega), clampInt_eq (by decide)]

/-! ## Segments -/

/-- R3: the gate arguments of a kind, clamped. -/
theorem clampGate_range (g : GateKind) (v w : Int) :
    (g = .day ∨ g = .night → -256 ≤ clampGateArg1 g v ∧ clampGateArg1 g v ≤ 383) ∧
    (g = .window → 0 ≤ clampGateArg1 g v ∧ clampGateArg1 g v ≤ 1439 ∧ 0 ≤ clampGateArg2 g w ∧ clampGateArg2 g w ≤ 1439) ∧
    (g = .level → 0 ≤ clampGateArg1 g v ∧ clampGateArg1 g v ≤ 3) := by
  cases g <;> simp [clampGateArg1, clampGateArg2, clampInt_mem]

/-- R4: the termination argument of a kind, clamped. -/
theorem clampTermArg_eq (t : TermKind) (v : Word) :
    match t with
    | .frames => (clampTermArg t v).toNat = max 1 (min 65535 v.toNat)
    | .duration => (clampTermArg t v).toNat = max 1 (min 4000000 v.toNat)
    | .clock => (clampTermArg t v).toNat = min 1439 v.toNat
    | .lightBelow | .lightAbove => (clampTermArg t v).toInt = max (-256) (min 383 v.toInt)
    | .levelBelow => (clampTermArg t v).toNat = max 1 (min 3 v.toNat)
    | .forever => clampTermArg t v = v := by
  cases t
  case lightBelow | lightAbove => exact clampLight_toInt v
  case forever => rfl
  case clock => exact (clampUnsigned_toNat (by decide) (by decide) v).trans (Nat.zero_max _)
  all_goals exact clampUnsigned_toNat (by decide) (by decide) v

theorem clampTerm_range (t : TermKind) (v : Word) :
    (t = .frames → 1 ≤ (clampTermArg t v).toNat ∧ (clampTermArg t v).toNat ≤ 65535) ∧
    (t = .duration → 1 ≤ (clampTermArg t v).toNat ∧ (clampTermArg t v).toNat ≤ 4000000) ∧
    (t = .clock → (clampTermArg t v).toNat ≤ 1439) ∧
    (t = .lightBelow ∨ t = .lightAbove → -256 ≤ (clampTermArg t v).toInt ∧ (clampTermArg t v).toInt ≤ 383) ∧
    (t = .levelBelow → 1 ≤ (clampTermArg t v).toNat ∧ (clampTermArg t v).toNat ≤ 3) := by
  have e := clampTermArg_eq t v
  cases t <;> simp only [reduceCtorEq, false_implies, true_implies, or_false, or_true, and_true, true_and] <;>
    simp only at e <;> omega

/-- The other numeric fields of a clamped record (R3, R10). -/
theorem clampSegment_fields (r : SegmentRecord) (g : GateKind) (t : TermKind) (n : NextKind) (m : ExposureMode)
    (rd : Rounding) {x : Segment} (h : x = clampSegment r g t n m rd) :
    x.interval = max 1024 (min 88473600 r.interval.toNat) ∧ x.fixedE = max (-208) (min 288 r.fixedE.toInt) ∧
      x.biasStart = max (-128) (min 128 r.biasStart.toInt) ∧ x.biasEnd = max (-128) (min 128 r.biasEnd.toInt) ∧
      x.smoothing = min 7 r.smoothing.toNat ∧ x.slew = max 1 (min 64 r.slew.toNat) ∧
      x.dMin = max (-208) (min 192 r.dMin.toInt) ∧ x.dMax = max (-208) (min 192 r.dMax.toInt) ∧
      x.gMax = min 96 r.gMax.toNat := by
  subst h
  simp [clampSegment, clampNat_eq, clampInt_eq]

/-- R3, R4, R10: a clamped record lies in the ranges of its kinds, once its jump and its duration limits have been checked. -/
theorem clampSegment_law (r : SegmentRecord) {g : GateKind} {t : TermKind} {n : NextKind} {m : ExposureMode} {rd : Rounding}
    (jump : n = .jump → r.jump.toNat < 24)
    (limits : (clampSegment r g t n m rd).dMin ≤ (clampSegment r g t n m rd).dMax) :
    SegmentLaw (clampSegment r g t n m rd) := by
  obtain ⟨sun, window, level⟩ := clampGate_range g r.gateArg1.toInt r.gateArg2.toInt
  obtain ⟨frames, duration, clock, light, levelBelow⟩ := clampTerm_range t r.termArg
  exact ⟨sun, window, level, frames, duration, clock, light, levelBelow, jump, clampNat_mem (by decide) _,
    clampInt_mem (by decide) _, clampInt_mem (by decide) _, clampInt_mem (by decide) _,
    (clampNat_mem (lo := 0) (hi := 7) (by decide) _).2, clampNat_mem (by decide) _, clampInt_mem (by decide) _,
    clampInt_mem (by decide) _, (clampNat_mem (lo := 0) (hi := 96) (by decide) _).2, limits⟩

/-- R9: what the examination of a record passes, with its kinds decoded. -/
theorem checkSegment_ok {slot : Byte} {r : SegmentRecord} {x : Segment} (h : checkSegment slot r = .ok x) :
    slot.toNat < 24 ∧ ∃ g t n m rd, gateKindOf r.gateKind = some g ∧ termKindOf r.termKind = some t ∧
      nextKindOf r.nextKind = some n ∧ exposureModeOf r.expMode = some m ∧ roundingOf r.rounding = some rd ∧
      (n = .jump → r.jump.toNat < 24) ∧ x = clampSegment r g t n m rd ∧ x.dMin ≤ x.dMax := by
  unfold checkSegment at h
  split at h
  · cases h
  case isFalse inBank =>
    split at h
    · cases h
    case h_2 g hg =>
      split at h
      · cases h
      case h_2 t ht =>
        split at h
        · cases h
        case h_2 n hn =>
          split at h
          · cases h
          case isFalse inBank' =>
            split at h
            · cases h
            case h_2 m hm =>
              split at h
              · cases h
              case h_2 rd hrd =>
                dsimp only at h
                split at h
                · cases h
                case isFalse limits =>
                  cases h
                  exact ⟨by omega, g, t, n, m, rd, hg, ht, hn, hm, hrd, fun j => by simp [j] at inBank'; omega, rfl,
                    by omega⟩

theorem checkSegment_law {slot : Byte} {r : SegmentRecord} {x : Segment} (h : checkSegment slot r = .ok x) :
    SegmentLaw x := by
  obtain ⟨-, g, t, n, m, rd, -, -, -, -, -, jump, rfl, limits⟩ := checkSegment_ok h
  exact clampSegment_law r jump limits

/-! ## Banks -/

/-- Every segment a bank holds keeps its law. -/
def BankLaw (b : Bank) : Prop := ∀ (i : Nat) (g : Segment), slotOf b i = some g → SegmentLaw g

theorem storeLaw_iff (s : State) : StoreLaw s ↔ BankLaw s.prog.bankA ∧ BankLaw s.prog.bankB :=
  ⟨fun h => ⟨h .a, h .b⟩, fun h n => match n with | .a => h.1 | .b => h.2⟩

@[simp] theorem slotOf_empty (i : Nat) : slotOf Bank.empty i = none := by
  unfold slotOf Bank.empty
  rw [Vector.getElem?_replicate]
  split <;> rfl

/-- A slot read after one slot has been written. -/
theorem slotOf_set (b : Bank) (k : Nat) (g : Segment) (i : Nat) (h : k < 24) :
    slotOf (b.setIfInBounds k (some g)) i = if i = k then some g else slotOf b i := by
  unfold slotOf
  rw [Vector.getElem?_setIfInBounds]
  split
  case isTrue e =>
    subst e
    simp
  case isFalse e => rw [if_neg (Ne.symm e)]

theorem bankLaw_empty : BankLaw Bank.empty := fun i g h => by simp at h

theorem BankLaw.set {b : Bank} (l : BankLaw b) {k : Nat} (h : k < 24) {g : Segment} (lg : SegmentLaw g) :
    BankLaw (b.setIfInBounds k (some g)) := by
  intro i x e
  rw [slotOf_set b k g i h] at e
  split at e
  · cases e
    exact lg
  · exact l i x e

/-! ## Parameters -/

/-- R196: the range of a parameter's value, the others as they are (R106, R111, R147, R181). -/
def ParamRange (p : Params) (v : Int) : ParamId → Prop
  | .sampleCount | .heaterMinLevel => 0 ≤ v ∧ v ≤ 3
  | .calibration => -128 ≤ v ∧ v ≤ 127
  | .k => -512 ≤ v ∧ v ≤ 511
  | .overhead | .runCurrent | .dozeCurrent => 0 ≤ v ∧ v ≤ 65535
  | .bulbThreshold => -48 ≤ v ∧ v ≤ 64
  | .linkPresent | .autoResume => 0 ≤ v ∧ v ≤ 1
  | .wakeLead => 1024 ≤ v ∧ v ≤ 20480
  | .meterLead => 64 ≤ v ∧ v ≤ 1088
  | .settingLead => 64 ≤ v ∧ v ≤ 1024
  | .focusLead => 0 ≤ v ∧ v ≤ 1024
  | .syncWindow => v = 0 ∨ 16 ≤ v ∧ v ≤ 1024
  | .writeTimeout => 2048 ≤ v ∧ v ≤ 614400
  | .keepOnThreshold => 0 ≤ v ∧ v ≤ 614400
  | .faultLimit => 1 ≤ v ∧ v ≤ 15
  | .capacity => 100 ≤ v ∧ v ≤ 65000
  | .cameraCurrent | .heaterCurrent => 0 ≤ v ∧ v ≤ 2000000
  | .frameCharge => 0 ≤ v ∧ v ≤ 1000
  | .vLow => 6000 ≤ v ∧ v ≤ 16000
  | .vCrit => 5000 ≤ v ∧ v ≤ 15900 ∧ v + 100 ≤ p.vLow
  | .hysteresis => 50 ≤ v ∧ v ≤ 2000
  | .stretch0 | .stretch1 | .stretch2 | .stretch3 => 1 ≤ v ∧ v ≤ 8
  | .tOn => -800 ≤ v ∧ v ≤ 800
  | .slope | .dutyMax => 0 ≤ v ∧ v ≤ 255
  | .logSize => v = 64 ∨ v = 128 ∨ v = 256 ∨ v = 512
  | .alertMask => True

/-- Step 3 of R197 brings every value into its range. -/
theorem paramInRange_range {p : Params} (l : ParamLaw p) (id : ParamId) (value : Word) :
    ParamRange p (paramInRange p id value) id := by
  have others : 64 ≤ p.settingLead ∧ p.settingLead ≤ 1024 ∧ 6000 ≤ p.vLow := by
    simp only [ParamLaw] at l
    omega
  cases id <;> simp only [ParamRange, paramInRange]
  case meterLead =>
    have mem := clampInt_mem (lo := 64) (hi := 1024) (by decide) value.toInt
    unfold meterLeadInRange
    split <;> omega
  case syncWindow =>
    have mem := clampInt_mem (lo := 16) (hi := 1024) (by decide) value.toInt
    unfold syncWindowInRange
    split <;> omega
  case vCrit =>
    have mem := clampInt_mem (lo := 5000) (hi := 15900) (by decide) value.toInt
    unfold vCritInRange
    split <;> omega
  case logSize =>
    unfold logSizeInRange
    split <;> (try split) <;> (try split) <;> omega
  all_goals exact clampInt_mem (by decide) _

/-- R147, R196: a value of its range stored, V_crit lowered with V_low, leaves every parameter in its range. -/
theorem storeParam_law {p : Params} (l : ParamLaw p) {id : ParamId} {v : Int} (r : ParamRange p v id) :
    ParamLaw (storeParam p id v) := by
  unfold ParamLaw at l ⊢
  cases id <;> simp only [ParamRange] at r <;> simp only [storeParam, l, and_true, true_and]
  case vLow => split <;> omega
  all_goals omega

/-! ## What the requests store -/

/-- The stored laws but for ATN, which the end of an event forms. -/
def Stored.Law (x : Stored) : Prop :=
  ParamLaw x.params ∧ BankLaw x.bankA ∧ BankLaw x.bankB ∧ (x.held.isSome = true → x.executing.isSome = true)

theorem storedInv_iff (s : State) : StoredInv s ↔ (storedOf s).Law ∧ AttentionLaw s := by
  unfold StoredInv Stored.Law
  rw [storeLaw_iff]
  constructor
  · rintro ⟨params, ⟨bankA, bankB⟩, attention, slots⟩
    exact ⟨⟨params, bankA, bankB, slots⟩, attention⟩
  · rintro ⟨⟨params, bankA, bankB, slots⟩, attention⟩
    exact ⟨params, ⟨bankA, bankB⟩, attention, slots⟩

/-- `t` holds parameters and banks in range, if `s` does, and the requests of `s` in its command slots. -/
def Answered (s t : State) : Prop :=
  (storedOf s).Law → (storedOf t).Law ∧ t.line.executing = s.line.executing ∧ t.line.held = s.line.held

theorem Answered.of_same {s t : State} (h : storedOf t = storedOf s) : Answered s t :=
  fun l => ⟨h ▸ l, congrArg Stored.executing h, congrArg Stored.held h⟩

/-- R1: the staged bank replaced. -/
theorem setStaged_answered {s : State} {b : Bank} (h : (storedOf s).Law → BankLaw b) :
    Answered s (s.modProg fun p => setStaged p b) := by
  intro l
  obtain ⟨params, bankA, bankB, slots⟩ := id l
  refine ⟨?_, rfl, rfl⟩
  have lb := h l
  unfold setStaged
  cases e : s.prog.active
  · refine ⟨params, ?_, ?_, slots⟩ <;> simpa [storedOf, e] using by assumption
  · refine ⟨params, ?_, ?_, slots⟩ <;> simpa [storedOf, e] using by assumption

theorem stagedBank_law {s : State} (l : (storedOf s).Law) : BankLaw (stagedBank s.prog) := by
  obtain ⟨-, bankA, bankB, -⟩ := l
  unfold stagedBank stagedName
  cases s.prog.active
  · exact bankB
  · exact bankA

theorem putSegment_answered (slot : Byte) (r : SegmentRecord) (s : State) : Answered s (putSegment slot r s).1 := by
  unfold putSegment
  split
  · exact .of_same rfl
  · split
    · exact .of_same rfl
    · split
      · exact .of_same rfl
      case h_2 g h => exact setStaged_answered fun l => (stagedBank_law l).set (checkSegment_ok h).1 (checkSegment_law h)

theorem clearStaged_answered (s : State) : Answered s (clearStaged s).1 := by
  unfold clearStaged
  split
  · exact .of_same rfl
  · split
    · exact .of_same rfl
    · exact setStaged_answered fun _ => bankLaw_empty

/-- What storing a parameter makes of what is stored: the parameter, or for the alert mask, which the line port holds, nothing. -/
theorem storedOf_storeParameter (p : ParamId) (v : Int) (s : State) :
    storedOf (storeParameter p v s) = { storedOf s with params := storeParam s.params p v } := by
  have put (u : State) : storedOf (u.modParams fun q => storeParam q p v) =
      { storedOf u with params := storeParam u.params p v } := rfl
  have accrued : (accrual s).params = s.params := congrArg Stored.params (storedOf_accrual s)
  unfold storeParameter
  dsimp only
  split
  case isTrue h => subst h; rfl
  case isFalse =>
    split
    · rw [formDraw, storedOf_modPow, put, accrued, storedOf_accrual]
    · split
      · rw [storedOf_settleLevels, storedOf_modPow, put]
      · split
        · rfl
        · split
          · split
            · rw [storedOf_keepOnTest, storedOf_stretchChanged, put]
            · rfl
          · rfl

theorem setParam_answered (id : Byte) (value : Word) (s : State) : Answered s (setParam id value s).1 := by
  unfold setParam
  split
  · exact .of_same rfl
  case h_2 p _ =>
    split
    · exact .of_same rfl
    · dsimp only
      split
      · exact .of_same rfl
      · unfold applyParameter
        split
        · exact .of_same rfl
        · intro l
          obtain ⟨params, bankA, bankB, slots⟩ := l
          have e := storedOf_storeParameter p (paramInRange s.params p value) s
          refine ⟨?_, congrArg Stored.executing e, congrArg Stored.held e⟩
          rw [e]
          exact ⟨storeParam_law params (paramInRange_range params p value), bankA, bankB, slots⟩

theorem answerOf_answered {r : Request} {s : State} {a : Answer} (h : answerOf r s = some a) : Answered s a.1 := by
  cases r <;> simp only [answerOf, Option.some.injEq, reduceCtorEq] at h <;> subst h
  case putSegment slot record => exact putSegment_answered slot record s
  case clearStaged => exact clearStaged_answered s
  case setParam id value => exact setParam_answered id value s
  case setClock seconds ticks => exact .of_same (storedOf_setClock seconds ticks s)
  case commit => exact .of_same (storedOf_commitRequest s)
  case start time => exact .of_same (storedOf_startRequest time s)
  case stop => exact .of_same (storedOf_stopRequest s)
  case hold => exact .of_same (storedOf_holdRequest s)
  case resume mode => exact .of_same (storedOf_resumeRequest mode s)
  case readResumeRecord => exact .of_same (storedOf_readResumeRecord s)
  case setResumePoint slot count => exact .of_same (storedOf_setResumePoint slot count s)
  case testShot => exact .of_same (storedOf_testShotRequest s)
  case setCharge charge => exact .of_same (storedOf_setCharge charge s)
  case getParam id => exact .of_same (by unfold getParam; split <;> rfl)
  case readSegment slot bank =>
    refine .of_same ?_
    unfold readSegment
    split
    · rfl
    · split <;> rfl
  case setLinkSpeed code => exact .of_same (by unfold setLinkSpeed; split <;> rfl)
  case getStatus part =>
    refine .of_same ?_
    unfold getStatus
    split
    · rfl
    · split
      · rfl
      · split
        · rfl
        · split <;> rfl
  all_goals exact .of_same rfl

/-! ## The line port -/

/-- R190: a request that enters the executing slot leaves the held one, and what its owner stores is in range. -/
theorem executeRequest_stored (r : Request) {s : State} (params : ParamLaw s.params) (bankA : BankLaw s.prog.bankA)
    (bankB : BankLaw s.prog.bankB) : (storedOf (executeRequest r s)).Law := by
  have l1 : (storedOf (s.modLine fun l => { l with executing := some r })).Law := ⟨params, bankA, bankB, fun _ => rfl⟩
  unfold executeRequest
  dsimp only
  split
  · rwa [meterNow, storedOf_meterRequest]
  case h_2 a => exact (answerOf_answered a l1).1

theorem storedOf_validFrame (s : State) : storedOf (validFrame s) = storedOf s := by
  unfold validFrame
  split <;> rfl

theorem receive_stored (r : Request) {s : State} (l : (storedOf s).Law) : (storedOf (receive r s)).Law := by
  rw [← storedOf_validFrame] at l
  obtain ⟨params, bankA, bankB, slots⟩ := id l
  unfold receive submit
  split
  · exact executeRequest_stored r params bankA bankB
  case isFalse busy =>
    split
    · exact ⟨params, bankA, bankB, fun _ => by simpa [storedOf, Option.isSome_iff_ne_none] using busy⟩
    · exact l

theorem frameReceived_stored (kind : Byte) (payload : List Byte) (crc : Byte) {s : State} (l : (storedOf s).Law) :
    (storedOf (frameReceived kind payload crc s)).Law := by
  unfold frameReceived
  split
  · exact l
  · split
    · exact receive_stored _ (s := s.modLine clearAssembler) l
    · exact l

theorem switchSpeed_line (s : State) :
    ∃ l, switchSpeed s = { s with line := l } ∧ l.executing = s.line.executing ∧ l.held = s.line.held := by
  unfold switchSpeed
  split
  · exact ⟨s.line, rfl, rfl, rfl⟩
  · exact ⟨_, rfl, rfl, rfl⟩

theorem replySent_stored {s : State} (l : (storedOf s).Law) : (storedOf (replySent s)).Law := by
  obtain ⟨params, bankA, bankB, -⟩ := l
  obtain ⟨port, e, executing, held⟩ := switchSpeed_line (s.modLine fun l => { l with reply := none, executing := none })
  unfold replySent
  rw [e]
  dsimp only
  split
  case h_1 h => exact ⟨params, bankA, bankB, fun x => by simp [storedOf, h] at x⟩
  case h_2 r _ => exact executeRequest_stored r (s := State.modLine _ _) params bankA bankB

/-! ## Every step -/

theorem endEvent_storedInv (s0 : State) {s : State} (l : (storedOf s).Law) : StoredInv (endEvent s0 s) :=
  (storedInv_iff _).mpr ⟨by rwa [storedOf_endEvent], endEvent_atn s0 s⟩

theorem event_storedInv {occasion : Bool} {op : State → State} {s : State} (l : StoredInv s)
    (keeps : (storedOf s).Law → (storedOf (op s)).Law) : StoredInv (event occasion op s) := by
  unfold event
  split
  · exact endEvent_storedInv s (keeps ((storedInv_iff s).mp l).1)
  · exact l

/-- An event that stores nothing. -/
theorem event_storedInv_of_same {occasion : Bool} {op : State → State} {s : State} (l : StoredInv s)
    (same : storedOf (op s) = storedOf s) : StoredInv (event occasion op s) :=
  event_storedInv l fun h => by rwa [same]

theorem paramLaw_defaults : ParamLaw Params.defaults := by
  simp [ParamLaw, Params.defaults]

theorem reset_attention : LinePort.reset.atn = atnOf LinePort.reset := by decide

theorem powerOnReset_storedInv (s : State) : StoredInv (powerOnReset s) :=
  (storedInv_iff _).mpr ⟨⟨paramLaw_defaults, bankLaw_empty, bankLaw_empty, nofun⟩, reset_attention⟩

theorem pinReset_storedInv {s : State} (l : StoredInv s) : StoredInv (pinReset s) := by
  obtain ⟨⟨params, bankA, bankB, -⟩, -⟩ := (storedInv_iff s).mp l
  exact (storedInv_iff _).mpr ⟨⟨params, bankA, bankB, nofun⟩, reset_attention⟩

theorem tick_storedInv {s : State} (l : StoredInv s) : StoredInv (tick s) := by
  rw [storedInv_iff] at l ⊢
  exact l

theorem queue_storedInv (s : State) (p : List Instr) (n : Nat) (l : StoredInv s) :
    StoredInv { s with pending := p, choices := n } := by
  rw [storedInv_iff] at l ⊢
  exact l

theorem exec_event_storedInv {c : Instr} {s t : State} (e : requestOf c = none) (l : StoredInv s)
    (h : exec c s = .next t) : StoredInv t := by
  have l0 := ((storedInv_iff s).mp l).1
  cases c <;> simp only [requestOf, reduceCtorEq] at e
  case converterJobEnd codes =>
    rcases exec_converterJobEnd codes s with j | ⟨c, job, cal, r, -, j⟩ <;> cases j.symm.trans h
    · exact l
    · exact endEvent_storedInv s (by rwa [storedOf_endJob])
  all_goals
    injection h with h
    subst h
  case powerOnReset => exact powerOnReset_storedInv s
  case pinReset => exact pinReset_storedInv l
  case frameReceived kind payload crc => exact event_storedInv l (frameReceived_stored kind payload crc)
  case replySent => exact event_storedInv l replySent_stored
  case lineBreak => exact event_storedInv l fun h => ⟨h.1, h.2.1, h.2.2.1, nofun⟩
  case stopBitError startedAgo lowFor =>
    exact event_storedInv_of_same l (by unfold stopBitError; split <;> rfl)
  case listenExpiry =>
    refine event_storedInv_of_same l ?_
    unfold storedOf listenExpiry
    dsimp only [State.modLine]
    split <;> rfl
  case settingRecordSent => exact event_storedInv_of_same l (by unfold settingRecordSent; split <;> rfl)
  case replyLeadByte => exact event_storedInv_of_same l (by unfold replyLeadByte; split <;> rfl)
  case accessoryByteError => exact event_storedInv_of_same l (by unfold accessoryByteError; split <;> rfl)
  case armedStartReached => exact event_storedInv_of_same l (storedOf_runBegin s)
  case preparationStart => exact event_storedInv_of_same l (storedOf_preparationStart s)
  case meterLead => exact event_storedInv_of_same l (storedOf_meterLead s)
  case settingLead => exact event_storedInv_of_same l (storedOf_settingLead s)
  case dueTime => exact event_storedInv_of_same l (storedOf_dueTime s)
  case replyRecord status mode shutter gain checksum =>
    exact event_storedInv_of_same l (storedOf_replyRecord status mode shutter gain checksum s)
  case replyWindowExpiry => exact event_storedInv_of_same l (storedOf_closeExchange _ _ s)
  case syncClosure => exact event_storedInv_of_same l (storedOf_syncClosure s)
  case syncWindowExpiry => exact event_storedInv_of_same l (storedOf_settleIfReady _)
  case readyChange rise => exact event_storedInv_of_same l (storedOf_readyChange rise s)
  case dropWatchExpiry => exact event_storedInv_of_same l (storedOf_completeWrite s)
  case writeTimeout => exact event_storedInv_of_same l (storedOf_writeTimeout s)
  case cooldownEnd => exact event_storedInv_of_same l (storedOf_cooldownEnd s)
  case recoveryTimerExpiry => exact event_storedInv_of_same l (storedOf_recoveryExpiry s)
  case periodicCompare => exact event_storedInv_of_same l (by simp [periodicCompare])
  case temperatureCompare => exact event_storedInv_of_same l (by simp [temperatureCompare])
  case heaterPeriodStart => exact event_storedInv_of_same l (by simp [heaterPeriodStart])
  case heaterOffEdge => exact event_storedInv_of_same l (by simp [heaterOffEdge])
  -- The others move a field of the camera, or the receiver.
  all_goals exact event_storedInv_of_same l rfl

theorem exec_storedInv {c : Instr} {s t : State} (l : StoredInv s) (h : exec c s = .next t) : StoredInv t := by
  cases req : requestOf c with
  | some r =>
    cases (exec_of_request req s).symm.trans h
    exact endEvent_storedInv s (receive_stored r ((storedInv_iff s).mp l).1)
  | none => exact exec_event_storedInv req l h

/-- Settles O58: what a step stores comes from the examination of SET_PARAM and PUT_SEGMENT, and every event forms ATN. -/
theorem everyStepKeepsTheStoredLaws : Obligations.EveryStepKeepsTheStoredLaws :=
  fun _ _ => step_keeps queue_storedInv (fun _ => tick_storedInv) (fun _ _ _ => exec_storedInv)

end Sys2Proof.Machine
end

section
/-! PROOFS. The resets, and the requests of the program store (R8 to R13, R20, R21, R25). -/

namespace Sys2Proof.Machine

/-! ## Resets -/

/-- Settles O4: both resets, block by block. -/
theorem resetsGiveTheTablesValues : Obligations.ResetsGiveTheTablesValues := by
  refine ⟨fun s => ⟨powerOnReset s, rfl, rfl, ?_, rfl, rfl, rfl, rfl, ?_, rfl, rfl, rfl, rfl, rfl, rfl, rfl, rfl, rfl⟩,
    fun s => ⟨pinReset s, rfl, rfl, rfl, rfl, ?_, rfl, rfl, rfl, rfl, rfl, rfl, rfl, rfl, rfl⟩⟩
  · intro n i
    cases n <;> exact slotOf_empty i
  · intro c
    cases c <;> rfl
  · intro c
    cases c <;> rfl

/-- Settles O5: the two resets by their values, the line break by the frame of an event's end. -/
theorem resetsOfTheStoreTheRampAndTheLog : Obligations.ResetsOfTheStoreTheRampAndTheLog := by
  intro s
  refine ⟨⟨powerOnReset s, rfl, ?_, rfl, rfl, rfl, rfl, rfl, rfl, rfl, rfl, rfl, rfl, rfl, rfl, rfl, rfl⟩,
    ⟨pinReset s, rfl, rfl, rfl, rfl, rfl, rfl, rfl, rfl, rfl⟩, fun at_ h reachedAt => ?_⟩
  · intro n i
    cases n <;> exact slotOf_empty i
  · have due : breakDue s = true := by simp [breakDue, reached, h, now, reachedAt]
    obtain ⟨-, prog, ramp, log, params, -⟩ := endEvent_same s (lineBreak s)
    exact ⟨endEvent s (lineBreak s), congrArg Host.Outcome.next (if_pos due), prog, ramp, by rw [params]; rfl, log⟩

/-! ## A request answered at once -/

@[simp] theorem taken_tb (r : Request) (s : State) : (taken r s).tb = s.tb := by
  obtain ⟨_, e, -⟩ := taken_frame r s
  rw [e]
@[simp] theorem taken_prog (r : Request) (s : State) : (taken r s).prog = s.prog := by
  obtain ⟨_, e, -⟩ := taken_frame r s
  rw [e]
@[simp] theorem taken_seq (r : Request) (s : State) : (taken r s).seq = s.seq := by
  obtain ⟨_, e, -⟩ := taken_frame r s
  rw [e]
@[simp] theorem taken_cam (r : Request) (s : State) : (taken r s).cam = s.cam := by
  obtain ⟨_, e, -⟩ := taken_frame r s
  rw [e]
@[simp] theorem taken_log (r : Request) (s : State) : (taken r s).log = s.log := by
  obtain ⟨_, e, -⟩ := taken_frame r s
  rw [e]
@[simp] theorem taken_params (r : Request) (s : State) : (taken r s).params = s.params := by
  obtain ⟨_, e, -⟩ := taken_frame r s
  rw [e]
@[simp] theorem taken_locked (r : Request) (s : State) : locked (taken r s) = locked s := by
  simp [locked]

/-- R189, R190: a request row whose request the owner answers at once. -/
theorem exec_answered {c : Instr} {r : Request} {s t : State} {status : Status} {data : ReplyData}
    (h : requestOf c = some r) (l : Listening s) (a : answerOf r (taken r s) = some (t, status, data)) :
    exec c s = .next (endEvent s (replied r status data t)) := by
  rw [exec_of_request h, receive_of_listening r l, a]

theorem locked_iff (s : State) : locked s = true ↔ s.prog.lock = true ∧ s.seq.state ≠ .hold := by
  simp [locked]

theorem not_locked {s : State} (h : ¬(s.prog.lock = true ∧ s.seq.state ≠ .hold)) : locked s = false := by
  rw [← Bool.not_eq_true, locked_iff]
  exact h

/-! ## READ_SEGMENT, CLEAR_STAGED, LOCK_PROGRAM -/

/-- R1, R12: replacing the staged bank leaves the active bank and the marks of the store. -/
theorem setStaged_spec (p : ProgramStore) (b : Bank) :
    (setStaged p b).active = p.active ∧ (setStaged p b).commitPending = p.commitPending ∧ (setStaged p b).lock = p.lock ∧
      activeBank (setStaged p b) = activeBank p ∧ stagedBank (setStaged p b) = b := by
  unfold setStaged activeBank stagedBank stagedName
  cases p.active <;> exact ⟨rfl, rfl, rfl, rfl, rfl⟩

/-- R1: a bank by its physical name, after the staged bank has been replaced. -/
theorem bankOf_setStaged (p : ProgramStore) (b : Bank) (n : BankName) :
    bankOf (setStaged p b) n = if n = otherBank p.active then b else bankOf p n := by
  unfold setStaged
  cases p.active <;> cases n <;> rfl

theorem selectedBank_other {p : ProgramStore} {selector : Byte} (h : 2 ≤ selector.toNat) : selectedBank p selector = none := by
  unfold selectedBank
  rw [if_neg (by rintro rfl; simp at h), if_neg (by rintro rfl; simp at h)]

/-- Settles O14. -/
theorem storeIsReadClearedAndLocked : Obligations.StoreIsReadClearedAndLocked := by
  refine ⟨fun slot selector s l => ⟨fun h => ?_, fun h k => ?_, fun h k => ?_, fun h k => ?_⟩,
    fun s l => ⟨fun h k => ?_, fun h k => ?_, fun h k => ?_, ?_⟩⟩
  · exact exec_answered rfl l (by simp [answerOf, readSegment, h])
  · exact exec_answered rfl l (by simp [answerOf, readSegment, Nat.not_le.mpr h, selectedBank_other k])
  · subst k
    exact exec_answered rfl l (by simp [answerOf, readSegment, Nat.not_le.mpr h, selectedBank, activeBank])
  · subst k
    exact exec_answered rfl l (by simp [answerOf, readSegment, Nat.not_le.mpr h, selectedBank, stagedBank, stagedName])
  · exact exec_answered rfl l (by simp [answerOf, clearStaged, (locked_iff s).mpr ⟨h, k⟩, refuse])
  · exact exec_answered rfl l (by simp [answerOf, clearStaged, not_locked h, k, refuse])
  · obtain ⟨active, pending, lock, running, staged⟩ := setStaged_spec s.prog Bank.empty
    refine ⟨setStaged s.prog Bank.empty, exec_answered rfl l ?_, active, pending, lock, running, fun i => ?_⟩
    · simp [answerOf, clearStaged, not_locked h, k, State.modProg, stagedName]
    · rw [staged, slotOf_empty]
  · exact exec_answered rfl l (by simp [answerOf, lockProgram, State.modProg])

/-! ## PUT_SEGMENT -/

theorem gateKindOf_eq_none (b : Byte) : gateKindOf b = none ↔ 5 ≤ b.toNat := by
  simp only [gateKindOf, BitVec.toNat_eq]
  repeat' split
  all_goals simp_all
  omega

theorem termKindOf_eq_none (b : Byte) : termKindOf b = none ↔ 7 ≤ b.toNat := by
  simp only [termKindOf, BitVec.toNat_eq]
  repeat' split
  all_goals simp_all
  omega

theorem nextKindOf_eq_none (b : Byte) : nextKindOf b = none ↔ 3 ≤ b.toNat := by
  simp only [nextKindOf, BitVec.toNat_eq]
  repeat' split
  all_goals simp_all
  omega

theorem nextKindOf_eq_jump (b : Byte) : nextKindOf b = some .jump ↔ b.toNat = 1 := by
  simp only [nextKindOf, BitVec.toNat_eq]
  repeat' split
  all_goals simp_all

theorem exposureModeOf_eq_none (b : Byte) : exposureModeOf b = none ↔ 3 ≤ b.toNat := by
  simp only [exposureModeOf, BitVec.toNat_eq]
  repeat' split
  all_goals simp_all
  omega

theorem roundingOf_eq_none (b : Byte) : roundingOf b = none ↔ 2 ≤ b.toNat := by
  simp only [roundingOf, BitVec.toNat_eq]
  repeat' split
  all_goals simp_all
  omega

/-- R9: the first failing field of a record, in the order of the examination. -/
def firstBadField (slot : Byte) (r : SegmentRecord) : Option Nat :=
  if 24 ≤ slot.toNat then some 0 else if 5 ≤ r.gateKind.toNat then some 1
  else if 7 ≤ r.termKind.toNat then some 4 else if 3 ≤ r.nextKind.toNat then some 6
  else if r.nextKind.toNat = 1 ∧ 24 ≤ r.jump.toNat then some 7 else if 3 ≤ r.expMode.toNat then some 9
  else if 2 ≤ r.rounding.toNat then some 18
  else if max (-208) (min 192 r.dMax.toInt) < max (-208) (min 192 r.dMin.toInt) then some 15 else none

/-- R9: the examination fails with the first failing field, or passes a record with none. -/
theorem checkSegment_eq (slot : Byte) (r : SegmentRecord) :
    (∃ n, firstBadField slot r = some n ∧ checkSegment slot r = .error n) ∨
      (firstBadField slot r = none ∧ ∃ g, checkSegment slot r = .ok g) := by
  unfold firstBadField checkSegment
  by_cases inBank : 24 ≤ slot.toNat
  · exact .inl ⟨0, if_pos inBank, if_pos inBank⟩
  rw [if_neg inBank, if_neg inBank]
  simp only [← gateKindOf_eq_none r.gateKind, ← termKindOf_eq_none r.termKind, ← nextKindOf_eq_none r.nextKind,
    ← nextKindOf_eq_jump r.nextKind, ← exposureModeOf_eq_none r.expMode, ← roundingOf_eq_none r.rounding]
  cases gateKindOf r.gateKind with
  | none => exact .inl ⟨1, rfl, rfl⟩
  | some g =>
  cases termKindOf r.termKind with
  | none => exact .inl ⟨4, rfl, rfl⟩
  | some t =>
  cases nextKindOf r.nextKind with
  | none => exact .inl ⟨6, rfl, rfl⟩
  | some n =>
  simp only [reduceCtorEq, if_false, Option.some.injEq]
  by_cases jump : n = .jump ∧ 24 ≤ r.jump.toNat
  · exact .inl ⟨7, if_pos jump, if_pos jump⟩
  rw [if_neg jump, if_neg jump]
  cases exposureModeOf r.expMode with
  | none => exact .inl ⟨9, rfl, rfl⟩
  | some m =>
  cases roundingOf r.rounding with
  | none => exact .inl ⟨18, rfl, rfl⟩
  | some rd =>
  obtain ⟨-, -, -, -, -, -, dMin, dMax, -⟩ := clampSegment_fields r g t n m rd rfl
  simp only [reduceCtorEq, if_false, dMin, dMax]
  by_cases limits : max (-208) (min 192 r.dMax.toInt) < max (-208) (min 192 r.dMin.toInt)
  · exact .inl ⟨15, if_pos limits, if_pos limits⟩
  · exact .inr ⟨if_neg limits, _, if_neg limits⟩

/-- Settles O12. -/
theorem putSegmentIsRefusedInFieldOrder : Obligations.PutSegmentIsRefusedInFieldOrder := by
  intro slot r bad hbad
  change bad = firstBadField slot r at hbad
  subst hbad
  refine ⟨?_, fun s l => ⟨fun h k => ?_, fun h k => ?_, fun h k n e => ?_⟩⟩
  · rcases checkSegment_eq slot r with ⟨n, bad, fails⟩ | ⟨good, passes⟩
    · simp [bad, fails]
    · simp [good, passes]
  · exact exec_answered rfl l (by simp [answerOf, putSegment, (locked_iff s).mpr ⟨h, k⟩, refuse])
  · exact exec_answered rfl l (by simp [answerOf, putSegment, not_locked h, k, refuse])
  · rcases checkSegment_eq slot r with ⟨n', bad, fails⟩ | ⟨good, -⟩
    · cases e.symm.trans bad
      exact exec_answered rfl l (by simp [answerOf, putSegment, not_locked h, k, fails])
    · cases e.symm.trans good

/-- R203: the bit of a clamped field. -/
theorem getLsbD_fieldBit (k n : Nat) (c : Bool) (h : n < 24) : (fieldBit k c).getLsbD n = (c && decide (n = k)) := by
  cases c
  · simp [fieldBit]
  · simp only [fieldBit, if_true, BitVec.getLsbD_shiftLeft, h]
    grind

/-- R10, R203: the clamped set holds the numbers of the fields that clamping changed. -/
theorem getLsbD_clampedFields (r : SegmentRecord) (g : Segment) (n : Nat) (h : n < 24) :
    (clampedFields r g).getLsbD n = true ↔
      (n = 2 ∧ g.gateArg1 ≠ r.gateArg1.toInt) ∨ (n = 3 ∧ g.gateArg2 ≠ r.gateArg2.toInt) ∨
      (n = 5 ∧ g.termArg ≠ r.termArg) ∨ (n = 8 ∧ g.interval ≠ r.interval.toNat) ∨
      (n = 10 ∧ g.fixedE ≠ r.fixedE.toInt) ∨ (n = 11 ∧ g.biasStart ≠ r.biasStart.toInt) ∨
      (n = 12 ∧ g.biasEnd ≠ r.biasEnd.toInt) ∨ (n = 13 ∧ g.smoothing ≠ r.smoothing.toNat) ∨
      (n = 14 ∧ g.slew ≠ r.slew.toNat) ∨ (n = 15 ∧ g.dMin ≠ r.dMin.toInt) ∨ (n = 16 ∧ g.dMax ≠ r.dMax.toInt) ∨
      (n = 17 ∧ g.gMax ≠ r.gMax.toNat) := by
  simp only [clampedFields, BitVec.getLsbD_or, getLsbD_fieldBit _ _ _ h, Bool.or_eq_true, Bool.and_eq_true, bne_iff_ne,
    decide_eq_true_eq, or_assoc, and_comm]

/-- Settles O13: the clamped record by the fields of `clampSegment`, the store by the slot written. -/
theorem putSegmentStoresTheClampedRecord : Obligations.PutSegmentStoresTheClampedRecord := by
  intro slot r g s l unlocked notPending passes
  obtain ⟨inBank, gk, tk, nk, m, rd, hg, ht, hn, hm, hrd, -, rfl, -⟩ := checkSegment_ok passes
  refine ⟨?_, ⟨hg, ht, hn, hm, hrd, rfl⟩, clampSegment_fields r gk tk nk m rd rfl, ?_, ?_, clampTermArg_eq tk r.termArg,
    getLsbD_clampedFields r _⟩
  · generalize clampSegment r gk tk nk m rd = g at *
    obtain ⟨active, pending, lock, -, -⟩ :=
      setStaged_spec s.prog ((stagedBank s.prog).setIfInBounds slot.toNat (some g))
    refine ⟨_, exec_answered rfl l ?_, active, pending, lock, fun n i => ?_⟩
    · simp [answerOf, putSegment, not_locked unlocked, notPending, passes, State.modProg, stagedName]
    · rw [bankOf_setStaged]
      by_cases staged : n = otherBank s.prog.active
      · subst staged
        simp [slotOf_set _ _ _ _ inBank, stagedBank, stagedName]
      · simp [staged]
  · cases gk <;> simp [clampSegment, clampGateArg1, clampInt_eq]
  · cases gk <;> simp [clampSegment, clampGateArg2, clampInt_eq]

end Sys2Proof.Machine
end

section
/-! PROOFS. SET_PARAM, the program check, COMMIT and the walk (R13 to R19, R33 to R36, R42, R197). -/

namespace Sys2Proof.Machine

/-! ## SET_PARAM -/

/-- One entry of the id table: what holds of its own pair, and of the rest of the table, holds of every pair. -/
theorem holds_of_entry {P : Byte → ParamId → Prop} {b id : Byte} {p q : ParamId} {rest : Option ParamId}
    (entry : P b p) (others : rest = some q → P id q) (h : (if id = b then some p else rest) = some q) : P id q := by
  split at h
  · cases h
    subst id
    exact entry
  · exact others h

/-- R20, R197: the parameters that the lock guards are those of the ids 1 to 5. -/
theorem lockedParam_of_paramOf {id : Byte} {q : ParamId} :
    paramOf id = some q → (lockedParam q = true ↔ 1 ≤ id.toNat ∧ id.toNat ≤ 5) := by
  unfold paramOf
  iterate 34
    refine holds_of_entry (P := fun id q => lockedParam q = true ↔ 1 ≤ id.toNat ∧ id.toNat ≤ 5) (by decide) ?_
  exact nofun

theorem paramOf_of_locked_id {id : Byte} (h1 : 1 ≤ id.toNat) (h5 : id.toNat ≤ 5) : ∃ q, paramOf id = some q := by
  have ids : id = 1 ∨ id = 2 ∨ id = 3 ∨ id = 4 ∨ id = 5 := by
    simp only [BitVec.toNat_eq]
    simp
    omega
  rcases ids with rfl | rfl | rfl | rfl | rfl <;> exact ⟨_, rfl⟩

theorem ownerTest_taken (r : Request) (q : ParamId) (v : Int) (s : State) :
    ownerTest q v (taken r s) = ownerTest q v s := by
  cases q <;> simp [ownerTest]

/-- R79, R181: only the frame overhead and the log size have a test of their owner. -/
theorem ownerTest_of_others {q : ParamId} (o : q ≠ .overhead) (z : q ≠ .logSize) (v : Int) (s : State) :
    ownerTest q v s = none := by
  cases q
  case overhead => exact absurd rfl o
  case logSize => exact absurd rfl z
  all_goals rfl

/-- R106, R147, R197: step 3 has changed no value. -/
theorem changedInRange_eq_false (p : Params) (q : ParamId) (value : Word) :
    changedInRange p q value = false ↔
      paramInRange p q value = value.toInt ∧ ¬(q = .vLow ∧ paramInRange p q value - 100 < p.vCrit) ∧
        ¬(q = .meterLead ∧ 1024 < value.toInt) := by
  have lead : q = .meterLead → paramInRange p q value = value.toInt →
      (clampInt 64 1024 value.toInt = value.toInt ↔ ¬1024 < value.toInt) := by
    rintro rfl
    simp only [paramInRange, meterLeadInRange, clampInt]
    grind
  simp only [changedInRange, lowersVCrit, Bool.or_eq_false_iff, decide_eq_false_iff_not, Bool.and_eq_false_imp,
    decide_eq_true_eq, ne_eq, not_not, not_and, and_assoc]
  grind

theorem applyParameter_of_held {q : ParamId} {s : State}
    (h : ¬(q = .vLow ∧ paramValue s.params s.line.mask q - 100 < s.params.vCrit)) :
    applyParameter q (paramValue s.params s.line.mask q) s = s := by
  refine if_pos ⟨rfl, ?_⟩
  simpa [lowersVCrit] using h

/-- Settles O9. -/
theorem setParamIsExaminedInOrder : Obligations.SetParamIsExaminedInOrder := by
  refine ⟨fun id value s l => ⟨fun h => ?_, fun h1 h5 lock hold => ?_, fun q h unlocked => ⟨fun d t => ?_, fun t => ?_,
    fun o z v => ownerTest_of_others o z v s⟩⟩, fun q s h => applyParameter_of_held h⟩
  · exact exec_answered rfl l (by simp [answerOf, setParam, h])
  · obtain ⟨q, h⟩ := paramOf_of_locked_id h1 h5
    have guarded := (lockedParam_of_paramOf h).mpr ⟨h1, h5⟩
    exact exec_answered rfl l (by simp [answerOf, setParam, h, guarded, (locked_iff s).mpr ⟨lock, hold⟩, refuse])
  all_goals
    have passes : (lockedParam q && locked (taken (.setParam id value) s)) = false := by
      rw [taken_locked, ← Bool.not_eq_true, Bool.and_eq_true, lockedParam_of_paramOf h, locked_iff, and_assoc]
      exact unlocked
  · refine exec_answered rfl l ?_
    simp only [answerOf, setParam, h, passes, ownerTest_taken, t, taken_params]
    rfl
  · refine exec_answered rfl l ?_
    simp only [answerOf, setParam, h, passes, ownerTest_taken, t, taken_params, ← changedInRange_eq_false]
    cases changedInRange s.params q value <;> rfl

/-! ## The program check -/

/-- What passes the three tests of R13, for one segment of a bank. -/
def SlotPasses (overhead : Nat) (b : Bank) (i : Nat) (g : Segment) : Prop :=
  (g.next = .next → slotOf b (i + 1) ≠ none) ∧ (g.next = .jump → slotOf b g.jump ≠ none) ∧ overhead + 1024 ≤ g.interval

theorem checkSlot_eq_none (overhead : Nat) (b : Bank) (i : Nat) :
    checkSlot overhead b i = none ↔ ∀ g, slotOf b i = some g → SlotPasses overhead b i g := by
  unfold checkSlot SlotPasses
  cases slotOf b i with
  | none => simp
  | some g =>
    simp only [Option.isNone_iff_eq_none, Option.some.injEq, forall_eq']
    split_ifs with next jump short <;> simp_all

/-- R13: the failure that a slot reports, with the first of the three reasons. -/
theorem checkSlot_eq_some {overhead : Nat} {b : Bank} {i k : Nat} {reason : CheckReason}
    (h : checkSlot overhead b i = some (k, reason)) :
    k = i ∧ ∃ g : Segment, slotOf b i = some g ∧
      ((reason = .nextUndefined ∧ g.next = .next ∧ slotOf b (i + 1) = none) ∨
        (reason = .jumpUndefined ∧ g.next = .jump ∧ slotOf b g.jump = none) ∨
        (reason = .intervalShort ∧ ¬(g.next = .next ∧ slotOf b (i + 1) = none) ∧
          ¬(g.next = .jump ∧ slotOf b g.jump = none) ∧ g.interval < overhead + 1024)) := by
  unfold checkSlot at h
  split at h
  · cases h
  case h_2 g e =>
    simp only [Option.isNone_iff_eq_none] at h
    split_ifs at h with next jump short <;> cases h
    · exact ⟨rfl, g, e, .inl ⟨rfl, next⟩⟩
    · exact ⟨rfl, g, e, .inr (.inl ⟨rfl, jump⟩)⟩
    · exact ⟨rfl, g, e, .inr (.inr ⟨rfl, next, jump, short⟩)⟩

theorem slotOf_lt {b : Bank} {i : Nat} {g : Segment} (h : slotOf b i = some g) : i < 24 := by
  by_contra out
  have e : b[i]? = none := Vector.getElem?_eq_none (by omega)
  simp [slotOf, e] at h

/-- The first index below `n` at which `f` answers. -/
theorem findSome_range {α : Type} (f : Nat → Option α) (n : Nat) (x : α) :
    (List.range n).findSome? f = some x ↔ ∃ i < n, f i = some x ∧ ∀ j < i, f j = none := by
  induction n with
  | zero => simp
  | succ n ih =>
    rw [List.range_succ, List.findSome?_append, Option.or_eq_some_iff, ih]
    simp only [List.findSome?_eq_none_iff, List.mem_range, List.findSome?_singleton]
    constructor
    · rintro (⟨i, hi, h⟩ | ⟨none, h⟩)
      · exact ⟨i, by omega, h⟩
      · exact ⟨n, by omega, h, none⟩
    · rintro ⟨i, hi, h, before⟩
      rcases Nat.lt_succ_iff_lt_or_eq.mp hi with hi | rfl
      · exact .inl ⟨i, hi, h, before⟩
      · exact .inr ⟨before, h⟩

/-- Settles O15. -/
theorem programCheckReportsTheFirstFailure : Obligations.ProgramCheckReportsTheFirstFailure := by
  intro overhead b
  refine ⟨fun h => if_pos (by rw [h]; rfl), fun h => ?_⟩
  have e : programCheck overhead b = (List.range 24).findSome? (checkSlot overhead b) := if_neg (by simpa using h)
  rw [e]
  refine ⟨?_, fun i reason found => ?_⟩
  · simp only [List.findSome?_eq_none_iff, List.mem_range, checkSlot_eq_none]
    exact ⟨fun all i g hg => all i (slotOf_lt hg) g hg, fun all i _ g hg => all i g hg⟩
  · obtain ⟨k, -, at_, before⟩ := (findSome_range _ _ _).mp found
    obtain ⟨rfl, fails⟩ := checkSlot_eq_some at_
    exact ⟨fails, fun j g hj hg => (checkSlot_eq_none overhead b j).mp (before j hj) g hg⟩

end Sys2Proof.Machine
end

section
/-! PROOFS. COMMIT and the walk (R14 to R19, R33 to R36, R42). -/

namespace Sys2Proof.Machine

/-! ## The store through hold entry and the walk -/

theorem cancelFrame_prog {cause : RecordCause} {s : State} (h : s.prog.commitPending = false) :
    (cancelFrame cause s).prog = s.prog := by
  cases f : s.cam.frame with
  | none =>
    by_cases p : s.cam.phase = .idleOn
    · obtain ⟨_, _, _, e⟩ := setCamPower_frame false (s.modCam fun c => { c with phase := .off })
      rw [cancelFrame_of_idleOn cause f p, e]
      rfl
    · rw [cancelFrame_of_nothing cause f p]
  | some f' =>
    obtain ⟨_, _, _, e, -⟩ := cancelFrame_eq cause f
    rw [e, boundaryBook_eq]
    exact resolved_of_not_pending h

theorem demandHold_prog {s : State} (h : s.prog.commitPending = false) : (demandHold s).prog = s.prog := by
  unfold demandHold
  split
  · exact cancelFrame_prog h
  · split
    case h_5 =>
      rw [cutFrame_eq, boundaryBook_eq]
      exact resolved_of_not_pending h
    case h_1 | h_2 | h_3 | h_4 => exact cancelFrame_prog h
    all_goals rfl

theorem holdEntry_prog {cause : HoldCause} {point : HoldPoint} {s : State} (h : s.prog.commitPending = false) :
    (holdEntry cause point s).prog = s.prog := by
  unfold holdEntry
  obtain ⟨_, _, _, _, _, _, _, e⟩ := holdCheck_formed (demandHold (s.modSeq fun q =>
    { q with
      state := .holding
      ending := false
      prepRegistered := false
      stretchPending := false
      hold := some (holdDataAt cause point s) }))
  rw [e]
  exact demandHold_prog h

/-- R33, R36: the state that a walk counts its entry in. -/
def counted (s : State) : State := s.modSeq fun q => { q with walkCount := q.walkCount + 1 }

/-- R36: the slot entered becomes current, with a new entry record. -/
def entered (slot count : Nat) (s : State) : State :=
  (counted s).modSeq fun q =>
    { q with current := some { slot := slot, entry := { entryNow s (segmentAt s slot) with exposureCount := count } } }

/-- R5, R33: a walk goes on to the next of a slot it has passed, whose segment is `g`. -/
def walkOn (fuel slot : Nat) (g : Segment) (s : State) : State :=
  match g.next with
  | .next => walk fuel (slot + 1) 0 s
  | .jump => walk fuel g.jump 0 s
  | .finish => programEnded s

/-- R34: the loop guard comes before the gate. -/
theorem walk_guarded {fuel slot count : Nat} {s : State} (h : 23 ≤ s.seq.walkCount) :
    walk (fuel + 1) slot count s = holdEntry .loop (.stoppedAt slot) (counted s) :=
  if_pos (Nat.succ_le_succ h)

/-- R33, R35, R36: an entry under the guard: its gate and its LEVEL_BELOW say whether the grid is anchored or the walk goes on. -/
theorem walk_of_lt {fuel slot count : Nat} {s : State} (h : s.seq.walkCount < 23) :
    walk (fuel + 1) slot count s =
      if (gateTrue s (segmentAt s slot) &&
          !(decide ((segmentAt s slot).term = .levelBelow) && levelBelow s (segmentAt s slot))) = true then
        anchorGrid (if gateTrue s (segmentAt s slot) = true then entered slot count s else counted s) slot
      else
        walkOn fuel slot (segmentAt s slot)
          (if gateTrue s (segmentAt s slot) = true then entered slot count s else counted s) :=
  if_neg (Nat.not_le.mpr (Nat.succ_lt_succ h))

/-- R36, R42: a true gate makes the slot current, and anchors the grid. -/
theorem walk_of_gate {fuel slot count : Nat} {s : State} (h : s.seq.walkCount < 23)
    (g : gateTrue s (segmentAt s slot) = true)
    (l : ¬((segmentAt s slot).term = .levelBelow ∧ s.pow.budgetLevel < (segmentAt s slot).termArg.toNat)) :
    walk (fuel + 1) slot count s = anchorGrid (entered slot count s) slot := by
  rw [walk_of_lt h, if_pos g, if_pos]
  simpa [g, levelBelow, imp_iff_not_or] using l

/-- R36: a slot whose LEVEL_BELOW is true at its entry is passed. -/
theorem walk_of_level {fuel slot count : Nat} {s : State} (h : s.seq.walkCount < 23)
    (g : gateTrue s (segmentAt s slot) = true) (t : (segmentAt s slot).term = .levelBelow)
    (l : s.pow.budgetLevel < (segmentAt s slot).termArg.toNat) :
    walk (fuel + 1) slot count s = walkOn fuel slot (segmentAt s slot) (entered slot count s) := by
  rw [walk_of_lt h, if_pos g, if_neg]
  simp [t, l, levelBelow]

/-- R35: a false gate passes the walk on. -/
theorem walk_of_no_gate {fuel slot count : Nat} {s : State} (h : s.seq.walkCount < 23)
    (g : gateTrue s (segmentAt s slot) = false) :
    walk (fuel + 1) slot count s = walkOn fuel slot (segmentAt s slot) (counted s) := by
  rw [walk_of_lt h, if_neg (c := gateTrue s _ = true) (by simp [g]), if_neg]
  simp [g]

theorem walk_prog (fuel slot count : Nat) {s : State} (h : s.prog.commitPending = false) :
    (walk fuel slot count s).prog = s.prog := by
  have passed (fuel : Nat) (ih : ∀ slot count {s : State}, s.prog.commitPending = false →
      (walk fuel slot count s).prog = s.prog) (slot : Nat) (g : Segment) {s : State} (h : s.prog.commitPending = false) :
      (walkOn fuel slot g s).prog = s.prog := by
    unfold walkOn
    split
    · exact ih _ _ h
    · exact ih _ _ h
    · rfl
  induction fuel generalizing slot count s with
  | zero => exact holdEntry_prog h
  | succ fuel ih =>
    by_cases guard : 23 ≤ s.seq.walkCount
    · rw [walk_guarded guard]
      exact holdEntry_prog h
    · rw [walk_of_lt (by omega)]
      generalize hu : (if gateTrue _ _ = true then _ else _ : State) = u
      have e : u.prog = s.prog := by
        subst hu
        split <;> rfl
      split
      · exact e
      · exact (passed fuel ih slot _ (e ▸ h)).trans e

/-! ## COMMIT -/

/-- R16: a swap made at once, whatever it restarts, leaves the store swapped. -/
theorem commitNow_prog (s : State) :
    (commitNow s).prog = { s.prog with active := otherBank s.prog.active, commitPending := false } := by
  unfold commitNow
  split
  case h_1 =>
    split
    · exact walk_prog 24 0 0 rfl
    · rfl
  all_goals rfl

theorem testInFlight_taken (r : Request) (s : State) : testInFlight (taken r s) = testInFlight s := by
  simp [testInFlight]

theorem frameInFlight_taken (r : Request) (s : State) : frameInFlight (taken r s) = frameInFlight s := by
  simp [frameInFlight]

/-- R14: the first four steps of the examination are behind a COMMIT whose staged bank is then checked. -/
def CommitChecks (s : State) : Prop :=
  ¬(s.prog.lock = true ∧ s.seq.state ≠ .hold) ∧ s.prog.commitPending = false ∧ s.seq.state ≠ .holding ∧
    ¬((s.seq.state = .idle ∨ s.seq.state = .ended) ∧ testInFlight s = true)

theorem commitRequest_invalid {s : State} (c : CommitChecks s) {i : Nat} {reason : CheckReason}
    (bad : programCheck s.params.overhead (stagedBank s.prog) = some (i, reason)) :
    commitRequest s = (s, .invalidProgram, .check i reason) := by
  obtain ⟨unlocked, pending, holding, free⟩ := c
  simp [commitRequest, not_locked unlocked, pending, holding, free, bad]

theorem commitRequest_deferred {s : State} (c : CommitChecks s)
    (good : programCheck s.params.overhead (stagedBank s.prog) = none)
    (flight : s.seq.state = .running ∧ frameInFlight s = true) :
    commitRequest s =
      ({ s with prog := { s.prog with commitPending := true } }, .ok, .commit true (otherBank s.prog.active)) := by
  obtain ⟨unlocked, pending, holding, free⟩ := c
  simp [commitRequest, not_locked unlocked, pending, good, flight, State.modProg, stagedName]

theorem commitRequest_now {s : State} (c : CommitChecks s)
    (good : programCheck s.params.overhead (stagedBank s.prog) = none)
    (flight : ¬(s.seq.state = .running ∧ frameInFlight s = true)) :
    commitRequest s = (commitNow s, .ok, .commit false (otherBank s.prog.active)) := by
  obtain ⟨unlocked, pending, holding, free⟩ := c
  rw [commitRequest, not_locked unlocked, pending, if_neg nofun, if_neg nofun, if_neg holding, if_neg free, good]
  exact if_neg flight

theorem commitChecks_taken {r : Request} {s : State} (c : CommitChecks s) : CommitChecks (taken r s) := by
  simpa only [CommitChecks, taken_prog, taken_seq, testInFlight_taken] using c

/-- R14 to R16: a COMMIT that swaps at once. -/
theorem exec_commit_now {s : State} (l : Listening s) (c : CommitChecks s)
    (good : programCheck s.params.overhead (stagedBank s.prog) = none)
    (flight : ¬(s.seq.state = .running ∧ frameInFlight s = true)) :
    exec .commit s = .next (endEvent s (replied .commit .ok (.commit false (otherBank s.prog.active))
      (commitNow (taken .commit s)))) := by
  have now := commitRequest_now (commitChecks_taken (r := .commit) c)
    (by rwa [taken_params, taken_prog]) (by rwa [taken_seq, frameInFlight_taken])
  refine exec_answered rfl l ?_
  rw [answerOf, now, taken_prog]

/-- Settles O16. -/
theorem commitIsExaminedInOrder : Obligations.CommitIsExaminedInOrder := by
  refine fun s l => ⟨fun lock hold => ?_, fun unlocked pending => ?_, fun unlocked pending => ⟨fun holding => ?_,
    fun state test => ?_, fun holding free => ⟨fun i reason bad => ?_, fun good => ⟨fun run flight => ?_,
      fun flight => ⟨_, exec_commit_now l ⟨unlocked, pending, holding, free⟩ good flight, ?_⟩, fun state => ?_⟩⟩⟩⟩
  · exact exec_answered rfl l (by simp [answerOf, commitRequest, (locked_iff s).mpr ⟨lock, hold⟩, refuse])
  · exact exec_answered rfl l (by simp [answerOf, commitRequest, not_locked unlocked, pending, refuse])
  · exact exec_answered rfl l (by simp [answerOf, commitRequest, not_locked unlocked, pending, holding, refuse])
  · refine exec_answered rfl l ?_
    have holding : s.seq.state ≠ .holding := by rcases state with e | e <;> rw [e] <;> nofun
    simp [answerOf, commitRequest, not_locked unlocked, pending, holding, testInFlight_taken, state, test, refuse]
  · refine exec_answered rfl l ?_
    rw [answerOf, commitRequest_invalid (commitChecks_taken ⟨unlocked, pending, holding, free⟩)
      (by rwa [taken_params, taken_prog])]
  · refine exec_answered rfl l ?_
    rw [answerOf, commitRequest_deferred (commitChecks_taken ⟨unlocked, pending, holding, free⟩)
      (by rwa [taken_params, taken_prog]) (by rw [taken_seq, frameInFlight_taken]; exact ⟨run, flight⟩), taken_prog]
  · rw [commitNow_prog, taken_prog]
  · have run : ¬(s.seq.state = .running ∧ frameInFlight s = true) := fun h => by simp [h.1] at state
    rw [exec_commit_now l ⟨unlocked, pending, holding, free⟩ good run]
    have swap : commitNow (taken .commit s) = swapBanks (taken .commit s) := by
      rcases state with e | e | e <;> simp [commitNow, e]
    rw [swap, swapBanks, State.modProg, taken_prog]

/-- R15: a commit taken at once swaps the store that the request finds. -/
theorem swapBanks_taken (r : Request) (s : State) :
    swapBanks (taken r s) =
      { taken r s with prog := { s.prog with active := otherBank s.prog.active, commitPending := false } } := by
  rw [swapBanks, State.modProg, taken_prog]

/-- R19: in HOLD the resume point moves. -/
theorem commitNow_of_hold {s : State} (q : s.seq.state = .hold) {h : HoldData} (e : s.seq.hold = some h) :
    commitNow s = { swapBanks s with seq := { s.seq with hold := some (resumeAtZero h) } } := by
  simp [commitNow, q, State.modSeq, swapBanks, State.modProg, e]

/-- R19: held from ARMED there is no resume point to move. -/
theorem commitNow_of_hold_armed {s : State} (q : s.seq.state = .hold) {h : HoldData} (e : s.seq.hold = some h)
    (armed : h.heldFrom = .armed) : commitNow s = swapBanks s := by
  rw [commitNow_of_hold q e, resumeAtZero, armed]
  simp only [← e]
  rfl

/-- R16: in RUNNING the walk starts again, unless the seed is outstanding. -/
theorem commitNow_of_running {s : State} (q : s.seq.state = .running) :
    commitNow s =
      if s.seq.current.isSome = true ∧ s.seq.awaitingSeed = false then walkFrom 0 0 (raiseAlert .commitDone (swapBanks s))
      else raiseAlert .commitDone (swapBanks s) := by
  rw [commitNow, q]

/-- Settles O17. -/
theorem commitSwapsAndRestartsTheWalk : Obligations.CommitSwapsAndRestartsTheWalk := by
  intro s l unlocked pending good
  have swapsAtOnce (state : s.seq.state = .hold ∨ s.seq.state = .running)
      (free : s.seq.state = .running → frameInFlight s = false) :=
    exec_commit_now l ⟨unlocked, pending, by rcases state with e | e <;> simp [e], by
      rcases state with e | e <;> simp [e]⟩ good (by simpa using free)
  refine ⟨fun h hold e from_ => ?_, fun h hold e from_ => ?_, fun run free seed => ?_, fun run free seed current => ?_⟩
  · rw [swapsAtOnce (.inl hold) (by simp [hold]), commitNow_of_hold (by rwa [taken_seq]) (by rwa [taken_seq]),
      swapBanks_taken, taken_seq, resumeAtZero, from_]
  · rw [swapsAtOnce (.inl hold) (by simp [hold]), commitNow_of_hold_armed (by rwa [taken_seq]) (by rwa [taken_seq]) from_,
      swapBanks_taken]
  · rw [swapsAtOnce (.inr run) fun _ => free, commitNow_of_running (by rwa [taken_seq]), swapBanks_taken, taken_seq,
      if_neg (by simp [seed])]
  · rw [swapsAtOnce (.inr run) fun _ => free, commitNow_of_running (by rwa [taken_seq]), swapBanks_taken, taken_seq,
      if_pos ⟨Option.isSome_iff_ne_none.mpr current, seed⟩]

/-! ## The walk, entry by entry -/

/-- R3: the window of minutes, wrapping past midnight where its start is the greater. -/
theorem inWindow_iff (start finish minute : Int) :
    inWindow start finish minute = true ↔
      (start < finish ∧ start ≤ minute ∧ minute < finish) ∨ (finish < start ∧ (start ≤ minute ∨ minute < finish)) := by
  unfold inWindow
  split
  · simp only [decide_eq_true_eq]
    omega
  · split
    · simp only [decide_eq_true_eq]
      omega
    · simp only [Bool.false_eq_true, false_iff]
      omega

/-- R3, R35: the five gates. -/
theorem gateTrue_always {s : State} {g : Segment} (h : g.gate = .always) : gateTrue s g = true := by
  rw [gateTrue, h]
theorem gateTrue_day {s : State} {g : Segment} {l : Int} (h : g.gate = .day) (e : s.meter.lLast = some l) :
    gateTrue s g = true ↔ g.gateArg1 ≤ l := by
  simp [gateTrue, h, e]
theorem gateTrue_night {s : State} {g : Segment} {l : Int} (h : g.gate = .night) (e : s.meter.lLast = some l) :
    gateTrue s g = true ↔ l < g.gateArg1 := by
  simp [gateTrue, h, e]
theorem gateTrue_window {s : State} {g : Segment} (h : g.gate = .window) :
    gateTrue s g = (s.tb.valid && inWindow g.gateArg1 g.gateArg2 (minuteOfDay s.tb.seconds)) := by
  rw [gateTrue, h]
theorem gateTrue_level {s : State} {g : Segment} (h : g.gate = .level) :
    gateTrue s g = true ↔ g.gateArg1 ≤ (s.pow.budgetLevel : Int) := by
  simp [gateTrue, h]

theorem entered_span (s : State) (g : Segment) :
    (entryNow s g).span =
      if s.tb.valid = true ∧ g.term = .clock then some (clockSpan g.termArg.toNat s.tb.seconds) else none := by
  simp only [entryNow, spanOf, ← ite_and]

/-- Settles O18. -/
theorem walkEntersSlotsInOrder : Obligations.WalkEntersSlotsInOrder := by
  refine ⟨fun fuel slot count s => ⟨fun guard => walk_guarded guard, fun lt g l => ⟨_, (walk_of_gate lt g l).symm, rfl, rfl,
    ⟨_, rfl, rfl, rfl, entered_span s _, rfl, rfl⟩, ⟨_, rfl, rfl, rfl, rfl, rfl⟩, rfl, rfl, rfl, rfl, rfl⟩,
    fun lt g => walk_of_no_gate lt g, fun u lt g t l e => ?_⟩, fun s g => ⟨gateTrue_always, fun l e => ⟨fun h => gateTrue_day h e,
    fun h => gateTrue_night h e⟩, fun h v => ?_, fun m h v e => ?_, gateTrue_level⟩⟩
  · have entry : u = entered slot count s := by
      rw [e, entered, entryNow, spanOf, if_neg (c := _ = TermKind.clock) (by simp [t]), ite_self]
      rfl
    rw [walk_of_level lt g t l, entry]
    rfl
  · rw [gateTrue_window h, v, Bool.false_and]
  · subst e
    rw [gateTrue_window h, v, Bool.true_and, inWindow_iff]
    rfl

end Sys2Proof.Machine
end

section
/-! PROOFS. STOP and hold entry (R30, R118, R119, R126 to R131, R173, R175). -/

namespace Sys2Proof.Machine

/-! ## The record of a frame that ends -/

/-- R172, R173, R175: the boundary's record holds what its frame had reached. -/
theorem frameRecord_records (s : State) (o : Outcome) (c : RecordCause) (f : Frame) (v : Int) :
    RecordsFrame s f (frameRecord s o c f v) := by
  refine ⟨rfl, rfl, rfl, rfl, rfl, rfl, rfl, rfl, rfl, ?_⟩
  have factor : flagIf (1 < f.factor) flagStretched = if 1 < f.factor then (0x0200 : Half) else 0 := by
    simp [flagIf, flagStretched]
  have clock : flagIf (!s.tb.valid) flagClockInvalid = if s.tb.valid = true then (0 : Half) else 0x0400 := by
    cases s.tb.valid <;> rfl
  simp only [frameRecord, factor, clock]
  cases f.exposure <;> cases f.metered <;> rfl

theorem RecordsFrame.congr {s t : State} {f : Frame} {r : LogRecord} (h : RecordsFrame s f r) (tb : t.tb = s.tb)
    (run : t.seq.runNumber = s.seq.runNumber) : RecordsFrame t f r := by
  rwa [RecordsFrame, tb, run]

/-- R15, R199: a pending commit resolved leaves COMMIT_DONE in the alert set. -/
theorem bookedAlerts_commitDone {r : Report} {s : State} (h : s.prog.commitPending = true) :
    bookedAlerts r s &&& 0x0008 ≠ 0 := by
  rw [bookedAlerts, if_pos h]
  generalize loggedAlerts _ s = a
  intro e
  have bit := congrArg (fun x : Half => x.getLsbD 3) e
  simp [Alert.bit] at bit

/-- R129, R199: HOLD_ENTERED stands in the alert set beside whatever stood there. -/
theorem holdEntered_raised (a : Half) : (a ||| 0x0001) &&& 0x0001 ≠ 0 ∧ (a ||| 0x0001) &&& 0x0008 = a &&& 0x0008 := by
  refine ⟨fun e => ?_, ?_⟩
  · have bit := congrArg (fun x : Half => x.getLsbD 0) e
    simp at bit
  · rw [BitVec.and_or_distrib_right]
    simp

/-- R18, R37, R170: a boundary up to its third step, with the record it writes. -/
theorem boundaryBook_spec (r : Report) (s : State) :
    ∃ (rec : LogRecord) (a : Half),
      boundaryBook r s =
        { s with
          prog := resolved s.prog
          seq := { s.seq with current := bookedCurrent r s, hold := resolvedHold s }
          log := storeRecord s.params.logSize rec s.log, line := { s.line with alerts := a } } ∧
      (rec.outcome = r.outcome ∧ rec.cause = r.cause ∧ rec.value = r.value ∧ RecordsFrame s r.frame rec ∧
        rec.level = s.pow.budgetLevel) ∧
      (s.prog.commitPending = true → a &&& 0x0008 ≠ 0) :=
  ⟨bookedRecord r s, bookedAlerts r s, boundaryBook_eq r s, ⟨rfl, rfl, rfl, frameRecord_records _ _ _ _ _, rfl⟩,
    bookedAlerts_commitDone⟩

/-- R18, R118, R173: what a cancel of a frame leaves, but for the grid and the power monitor that switching the camera moves. -/
theorem cancelFrame_spec (cause : RecordCause) {f : Frame} {s : State} (h : s.cam.frame = some f) :
    ∃ (g : Option Grid) (b : Bool) (p : Power) (r : LogRecord) (a : Half),
      cancelFrame cause s =
        { s with
          prog := resolved s.prog
          seq := { s.seq with
                   grid := g, stretchPending := b, current := bookedCurrent (cancelReport cause f) s
                   hold := resolvedHold s }
          cam := cancelled s.cam, pow := p
          log := storeRecord s.params.logSize r s.log, line := { s.line with alerts := a } } ∧
      (s.seq.state ≠ .running → g = s.seq.grid ∧ b = s.seq.stretchPending) ∧
      (r.outcome = .aborted ∧ r.cause = cause ∧ r.value = 0 ∧ RecordsFrame s f r ∧ r.level = p.budgetLevel) ∧
      (s.prog.commitPending = true → a &&& 0x0008 ≠ 0) := by
  obtain ⟨g, b, p, e, parked, -⟩ := cancelFrame_eq cause h
  obtain ⟨r, a, booked, ⟨outcome, cause', value, records, level⟩, done⟩ := boundaryBook_spec (cancelReport cause f)
    { s with seq := { s.seq with grid := g, stretchPending := b }, cam := cancelled s.cam, pow := p }
  exact ⟨g, b, p, r, a, e.trans booked, parked, ⟨outcome, cause', value, records, level⟩, done⟩

/-! ## STOP -/

/-- Settles O22. -/
theorem stopActsByState : Obligations.StopActsByState := by
  refine fun s l => ⟨fun q => ?_, fun q => ?_, fun q => ?_, fun q stop => ?_, fun q go flight => ⟨fun p => ?_, fun f h p => ?_⟩⟩
  · refine exec_answered rfl l ?_
    rcases q with q | q <;> simp [answerOf, stopRequest, q, refuse]
  · refine exec_answered rfl l ?_
    rcases q with q | q | ⟨q, go, free⟩
    · simp [answerOf, stopRequest, q, enterEnded, State.modSeq]
    · simp [answerOf, stopRequest, q, enterEnded, State.modSeq]
    · simp [answerOf, stopRequest, q, stopRunning, go, frameInFlight_taken, free, enterEnded, State.modSeq]
  · exact exec_answered rfl l (by simp [answerOf, stopRequest, q, State.modSeq])
  · exact exec_answered rfl l (by simp [answerOf, stopRequest, q, stopRunning, stop])
  · refine exec_answered rfl l ?_
    rcases p with p | p <;>
      simp [answerOf, stopRequest, q, stopRunning, go, frameInFlight_taken, flight, p, State.modSeq]
  · obtain ⟨line, taken_eq, -⟩ := taken_frame .stop s
    obtain ⟨g, b, pow, r, a, e, -, ⟨outcome, cause, value, records, level⟩, done⟩ :=
      cancelFrame_spec .stop (s := { s with line := line }) h
    refine ⟨enterEnded (cancelFrame .stop { s with line := line }), r, exec_answered rfl l ?_, ?_⟩
    · rw [taken_eq]
      rcases p with p | p | p | p <;>
        simp [answerOf, stopRequest, q, stopRunning, go, ← taken_eq, frameInFlight_taken, flight, p]
    · rw [e]
      obtain ⟨run, number, segment, -⟩ := id records
      exact ⟨rfl, rfl, rfl, rfl, rfl, rfl, rfl, rfl, unpoweredPhase_eq s.cam, rfl, rfl, outcome, cause, number, run, segment,
        value, records, level, rfl, rfl, done, rfl, rfl, rfl⟩

/-! ## The resume record -/

/-- R126 steps 1 and 2: the event of the cause has recorded it, and the sequencer is in HOLDING. -/
def heldAt (cause : HoldCause) (point : HoldPoint) (s : State) : State :=
  { s with
    seq := { s.seq with
             state := .holding, ending := false, prepRegistered := false, stretchPending := false
             hold := some (holdDataAt cause point s) } }

theorem heldAt_not_running (cause : HoldCause) (point : HoldPoint) (s : State) :
    (heldAt cause point s).seq.state ≠ .running := by simp [heldAt]

theorem holdEntry_eq (cause : HoldCause) (point : HoldPoint) (s : State) :
    holdEntry cause point s = holdCheck (demandHold (heldAt cause point s)) := rfl

/-- R131: with nothing in hand nothing is trapped. -/
theorem holdDataAt_of_none (cause : HoldCause) (point : HoldPoint) {s : State} (h : s.cam.frame = none) :
    (holdDataAt cause point s).trapPhase = none ∧ (holdDataAt cause point s).trapFrame = none ∧
      (holdDataAt cause point s).trapExposure = none ∧ (holdDataAt cause point s).elapsed = 0 := by
  simp [holdDataAt, h]

/-- R131: the trap of a run frame. -/
theorem holdDataAt_of_run (cause : HoldCause) (point : HoldPoint) {f : Frame} {s : State} (h : s.cam.frame = some f)
    (k : f.kind = .run) :
    (holdDataAt cause point s).trapPhase = some s.cam.phase ∧ (holdDataAt cause point s).trapFrame = some f.number ∧
      (holdDataAt cause point s).trapExposure = trapExposure s.cam.phase f ∧
      (holdDataAt cause point s).elapsed = if s.cam.phase = .exposing then now s - f.due else 0 := by
  have run : s.cam.frame.filter (fun f => decide (f.kind = .run)) = some f := by simp [h, k]
  simp [holdDataAt, run]

/-- R131: the trapped exposure by the phase of the cause. -/
theorem trapExposure_early {p : Phase} {f : Frame} (h : p = .waking ∨ p = .preparing) : trapExposure p f = none := by
  unfold trapExposure
  rcases h with rfl | rfl <;> cases f.exposure <;> rfl

theorem trapExposure_setting {f : Frame} {e : Exposure} (h : f.exposure = some e) :
    trapExposure .setting f =
      some { mode := e.mode, value := if e.mode = .bulb then (e.ticks : Int) else e.sReq, gain := e.gReq } := by
  rw [trapExposure, h]
  cases m : e.mode <;> simp [m]

theorem trapExposure_late {p : Phase} {f : Frame} {e : Exposure} (h : f.exposure = some e)
    (q : p = .waitDue ∨ p = .exposing ∨ p = .writing) :
    trapExposure p f = e.applied.map fun a => { mode := e.mode, value := a.value, gain := a.gain } := by
  rw [trapExposure, h]
  rcases q with rfl | rfl | rfl <;> rfl

/-- R129: on reaching HOLD the entry record is copied unless the point is fresh. -/
theorem completeRecord_spec (s : State) (h : HoldData) :
    ∃ n d t,
      completeRecord s h =
        { h with f := s.ramp.f, ePrev := s.ramp.ePrev, exposureCount := n, debounce := d, times := t } ∧
      (h.fresh = true → n = h.exposureCount ∧ d = h.debounce ∧ t = h.times) ∧
      (∀ c : Current, h.fresh = false → s.seq.current = some c →
        n = c.entry.exposureCount ∧ d = c.entry.debounce ∧ t = some (c.entry.runTime, c.entry.w0, c.entry.span)) := by
  unfold completeRecord
  cases fresh : h.fresh
  case true => exact ⟨_, _, _, rfl, fun _ => ⟨rfl, rfl, rfl⟩, nofun⟩
  case false =>
    cases current : s.seq.current with
    | none => exact ⟨_, _, _, rfl, nofun, nofun⟩
    | some c =>
      refine ⟨_, _, _, rfl, nofun, fun c' _ e => ?_⟩
      cases e
      exact ⟨rfl, rfl, rfl⟩

/-! ## Reaching HOLD -/

theorem holdCheck_of_seed {s : State} (h : s.seq.awaitingSeed = true) : holdCheck s = s :=
  if_neg (by simp [h])

theorem holdCheck_of_frame {f : Frame} {s : State} (h : s.cam.frame = some f) : holdCheck s = s :=
  if_neg (by simp [cameraParked, h])

theorem holdCheck_of_drain {s : State} (h : s.cam.drain = true) : holdCheck s = s :=
  if_neg (by simp [cameraParked, h])

/-- R129: HOLD is reached with the camera parked and no seed outstanding, and the record is completed. -/
theorem holdCheck_parked {s : State} {h : HoldData} (q : s.seq.state = .holding) (e : s.seq.ending = false)
    (seed : s.seq.awaitingSeed = false) (frame : s.cam.frame = none) (drain : s.cam.drain = false)
    (power : s.cam.power = false) (hold : s.seq.hold = some h) :
    ∃ n d t,
      holdCheck s =
        { s with
          seq := { s.seq with
                   state := .hold
                   hold := some { h with
                                  f := s.ramp.f, ePrev := s.ramp.ePrev, exposureCount := n, debounce := d, times := t } }
          line := { s.line with alerts := s.line.alerts ||| 0x0001 } } ∧
      (h.fresh = true → n = h.exposureCount ∧ d = h.debounce ∧ t = h.times) ∧
      (∀ c : Current, h.fresh = false → s.seq.current = some c →
        n = c.entry.exposureCount ∧ d = c.entry.debounce ∧ t = some (c.entry.runTime, c.entry.w0, c.entry.span)) := by
  obtain ⟨n, d, t, completed, kept, copied⟩ := completeRecord_spec s h
  refine ⟨n, d, t, ?_, kept, copied⟩
  rw [holdCheck, if_pos ⟨q, by simp [cameraParked, frame, drain, power], seed⟩, if_neg (by simp [e])]
  simp [raiseAlert, State.modSeq, State.modLine, hold, completed, Alert.bit]

/-! ## Hold entry with the camera parked -/

/-- R126, R129: with nothing in hand and the camera off, HOLD is reached at once, unless a seed metering is outstanding. -/
theorem holdEntry_parked (cause : HoldCause) (point : HoldPoint) {s : State} (frame : s.cam.frame = none)
    (drain : s.cam.drain = false) (off : s.cam.phase ≠ .idleOn) (power : s.cam.power = false) :
    ∃ n d t,
      holdEntry cause point s =
        { s with
          seq := { s.seq with
                   state := if s.seq.awaitingSeed = true then .holding else .hold
                   ending := false, prepRegistered := false, stretchPending := false
                   hold := some { holdDataAt cause point s with exposureCount := n, debounce := d, times := t } }
          line := { s.line with
                    alerts := if s.seq.awaitingSeed = true then s.line.alerts else s.line.alerts ||| 0x0001 } } ∧
      (holdFresh point s.seq = true → n = 0 ∧ d = 0 ∧ t = none) ∧
      (∀ c : Current, s.seq.awaitingSeed = false → holdFresh point s.seq = false → s.seq.current = some c →
        n = c.entry.exposureCount ∧ d = c.entry.debounce ∧ t = some (c.entry.runTime, c.entry.w0, c.entry.span)) := by
  rw [holdEntry_eq, demandHold_of_nothing (s := heldAt cause point s) frame off]
  cases seed : s.seq.awaitingSeed
  case true =>
    rw [holdCheck_of_seed (s := heldAt cause point s) seed]
    exact ⟨0, 0, none, rfl, fun _ => ⟨rfl, rfl, rfl⟩, nofun⟩
  case false =>
    obtain ⟨n, d, t, reached, fresh, copied⟩ :=
      holdCheck_parked (s := heldAt cause point s) rfl rfl seed frame drain power rfl
    exact ⟨n, d, t, reached, fresh, fun c _ => copied c⟩

/-- R126, R130: the resume point and the cause's slot of a run, with no seed outstanding. -/
theorem holdPoint_running {q : Sequencer} (run : q.state = .running) (seed : q.awaitingSeed = false) (point : HoldPoint) :
    holdFresh point q = (point != .current) ∧
      holdResumeSlot point q =
        (match point with
        | .current => q.current.map fun c => c.slot
        | .stoppedAt slot => some slot
        | .swapped => some 0) ∧
      holdCauseSlot point q =
        (match point with
        | .stoppedAt slot => some slot
        | .current | .swapped => q.current.map fun c => c.slot) := by
  cases point <;> simp [holdFresh, holdResumeSlot, holdCauseSlot, run, seed]

/-- R126, R130: before the seed the resume point is slot 0. -/
theorem holdPoint_seed {q : Sequencer} (run : q.state = .running) (seed : q.awaitingSeed = true) (point : HoldPoint) :
    holdFresh point q = true ∧ holdResumeSlot point q = some 0 ∧ holdCauseSlot point q = none := by
  simp [holdFresh, holdResumeSlot, holdCauseSlot, run, seed]

/-- R126, R130, entry 44: a run held from ARMED has no resume point. -/
theorem holdPoint_armed {q : Sequencer} {point : HoldPoint} (armed : q.state = .armed) :
    holdResumeSlot point q = none ∧ holdCauseSlot point q = none ∧ holdFresh point q = false := by
  simp [holdFresh, holdResumeSlot, holdCauseSlot, armed]

/-! ## Hold entry with the camera on -/

/-- R153: switching CAMPWR accrues. -/
theorem setCamPower_lastAccrual {on : Bool} {s : State} (h : s.cam.phase ≠ .idleOn) (n : s.cam.power ≠ on) :
    (setCamPower on s).pow.lastAccrual = now s := by
  obtain ⟨_, _, _, _, e, -⟩ := accrual_moved (s := s.modCam fun c => { c with power := on }) h
  rw [setCamPower, if_neg n, e]
  rfl

/-- R117, R129: a camera kept on is switched off, and HOLD is reached in the same event. -/
theorem holdEntry_idleOn (cause : HoldCause) (point : HoldPoint) {s : State} (frame : s.cam.frame = none)
    (drain : s.cam.drain = false) (phase : s.cam.phase = .idleOn) (power : s.cam.power = true)
    (seed : s.seq.awaitingSeed = false) :
    ∃ p : Power, p.lastAccrual = s.tb.runCounter ∧ ∃ n d t,
      holdEntry cause point s =
        { s with
          seq := { s.seq with
                   state := .hold, ending := false, prepRegistered := false, stretchPending := false
                   hold := some { holdDataAt cause point s with exposureCount := n, debounce := d, times := t } }
          cam := { s.cam with phase := .off, power := false }, pow := p
          line := { s.line with alerts := s.line.alerts ||| 0x0001 } } := by
  have off : ((heldAt cause point s).modCam fun c => { c with phase := .off }).cam.phase ≠ .idleOn := by simp
  obtain ⟨p, e⟩ := setCamPower_parked false off (heldAt_not_running cause point s)
  have accrued := setCamPower_lastAccrual (on := false) off (by simp [heldAt, power])
  rw [e] at accrued
  obtain ⟨n, d, t, reached, -⟩ := holdCheck_parked
    (s := { heldAt cause point s with cam := { s.cam with phase := .off, power := false }, pow := p })
    rfl rfl seed frame drain rfl rfl
  refine ⟨p, accrued, n, d, t, ?_⟩
  rw [holdEntry_eq, demandHold_of_idleOn (s := heldAt cause point s) frame phase, e]
  exact reached

/-! ## Hold entry with a frame in hand -/

/-- R173: an ABORTED boundary counts nothing outside RUNNING. -/
theorem bookedCurrent_aborted {r : Report} {s : State} (o : r.outcome = .aborted) (q : s.seq.state ≠ .running) :
    bookedCurrent r s = s.seq.current := by
  unfold bookedCurrent bookedEntry
  cases s.seq.current with
  | none => rfl
  | some c => simp [q, o, countFrame]

/-- R18, R19: the resume point of a run moved to slot 0. -/
theorem resumeAtZero_of_running {h : HoldData} (e : h.heldFrom = .running) :
    resumeAtZero h = { h with resumeSlot := some 0, fresh := true, exposureCount := 0, times := none } := by
  simp [resumeAtZero, e]

/-- R18, R130: a pending commit resolved in the event of the cause moves the resume point of a run. -/
theorem resolvedHold_heldAt (cause : HoldCause) {s : State} (run : s.seq.state = .running) :
    ∃ slot fresh,
      resolvedHold (heldAt cause .current s) =
        some { holdDataAt cause .current s with resumeSlot := slot, fresh := fresh } ∧
      (s.prog.commitPending = false →
        slot = (holdDataAt cause .current s).resumeSlot ∧ fresh = (holdDataAt cause .current s).fresh) ∧
      (s.prog.commitPending = true → slot = some 0 ∧ fresh = true) := by
  have from_ : (holdDataAt cause .current s).heldFrom = .running := by simp [holdDataAt, run]
  cases c : s.prog.commitPending
  case false => exact ⟨_, _, if_neg (by simp [heldAt, c]), fun _ => ⟨rfl, rfl⟩, nofun⟩
  case true =>
    refine ⟨some 0, true, ?_, nofun, fun _ => ⟨rfl, rfl⟩⟩
    exact (if_pos ⟨c, rfl⟩).trans (congrArg some (resumeAtZero_of_running from_))

/-- R118, R126, R129: a frame before EXPOSING is cancelled, and HOLD is reached in the same event. -/
theorem holdEntry_cancels (cause : HoldCause) {f : Frame} {s : State} (run : s.seq.state = .running)
    (seed : s.seq.awaitingSeed = false) (frame : s.cam.frame = some f) (drain : s.cam.drain = false)
    (p : BeforeExposing s.cam.phase) :
    ∃ pow r a slot fresh n d t,
      holdEntry cause .current s =
        { s with
          prog := resolved s.prog
          seq := { s.seq with
                   state := .hold, ending := false, prepRegistered := false, stretchPending := false
                   hold := some { holdDataAt cause .current s with
                                  resumeSlot := slot, fresh := fresh, exposureCount := n, debounce := d, times := t } }
          cam := cancelled s.cam, pow := pow
          log := storeRecord s.params.logSize r s.log, line := { s.line with alerts := a ||| 0x0001 } } ∧
      (r.outcome = .aborted ∧ r.cause = .hold ∧ r.value = 0 ∧ RecordsFrame s f r ∧ r.level = pow.budgetLevel) ∧
      (s.prog.commitPending = false →
        slot = (holdDataAt cause .current s).resumeSlot ∧ fresh = (holdDataAt cause .current s).fresh) ∧
      (s.prog.commitPending = true → a &&& 0x0008 ≠ 0 ∧ slot = some 0 ∧ fresh = true) ∧
      (fresh = true → n = 0) ∧
      (∀ c : Current, fresh = false → s.seq.current = some c →
        n = c.entry.exposureCount ∧ d = c.entry.debounce ∧ t = some (c.entry.runTime, c.entry.w0, c.entry.span)) := by
  obtain ⟨g, b, pow, r, a, e, parked, ⟨outcome, cause', value, records, level⟩, done⟩ :=
    cancelFrame_spec .hold (s := heldAt cause .current s) frame
  obtain ⟨rfl, rfl⟩ := parked (heldAt_not_running cause .current s)
  obtain ⟨slot, fresh, hold, stays, moves⟩ := resolvedHold_heldAt cause run
  rw [bookedCurrent_aborted rfl (heldAt_not_running cause .current s), hold,
    ← demandHold_before_exposing (s := heldAt cause .current s) frame p] at e
  obtain ⟨n, d, t, reached, kept, copied⟩ := holdCheck_parked (s := demandHold (heldAt cause .current s))
    (h := { holdDataAt cause .current s with resumeSlot := slot, fresh := fresh })
    (by rw [e]; rfl) (by rw [e]; rfl) (by rw [e]; exact seed) (by rw [e]; rfl) (by rw [e]; exact drain) (by rw [e]; rfl)
    (by rw [e])
  rw [← holdEntry_eq, e] at reached
  rw [e] at copied
  exact ⟨pow, r, a, slot, fresh, n, d, t, reached, ⟨outcome, cause', value, records.congr rfl rfl, level⟩, stays,
    fun p => ⟨done p, moves p⟩, fun f => (kept f).1, copied⟩

/-- R119, R126: a frame in EXPOSING is cut, and drains. -/
theorem holdEntry_cuts (cause : HoldCause) {f : Frame} {s : State} (run : s.seq.state = .running)
    (frame : s.cam.frame = some f) (p : s.cam.phase = .exposing) :
    ∃ r a slot fresh,
      holdEntry cause .current s =
        { s with
          prog := resolved s.prog
          seq := { s.seq with
                   state := .holding, ending := false, prepRegistered := false, stretchPending := false
                   hold := some { holdDataAt cause .current s with resumeSlot := slot, fresh := fresh } }
          cam := cutCamera s
          log := storeRecord s.params.logSize r s.log, line := { s.line with alerts := a } } ∧
      (r.outcome = .aborted ∧ r.cause = .hold ∧ r.value = ((now s - f.due : Nat) : Int) ∧ RecordsFrame s f r ∧
        r.level = s.pow.budgetLevel) ∧
      (s.prog.commitPending = false →
        slot = (holdDataAt cause .current s).resumeSlot ∧ fresh = (holdDataAt cause .current s).fresh) ∧
      (s.prog.commitPending = true → a &&& 0x0008 ≠ 0 ∧ slot = some 0 ∧ fresh = true) := by
  obtain ⟨slot, fresh, hold, stays, moves⟩ := resolvedHold_heldAt cause run
  obtain ⟨u, hu⟩ : ∃ u : State, u = { heldAt cause .current s with cam := cutCamera s } := ⟨_, rfl⟩
  obtain ⟨r, a, e, ⟨outcome, cause', value, records, level⟩, done⟩ := boundaryBook_spec (cutReport f s) u
  have current : bookedCurrent (cutReport f s) u = s.seq.current := by
    subst hu
    exact bookedCurrent_aborted rfl (heldAt_not_running cause .current s)
  have hold' : resolvedHold u = some { holdDataAt cause .current s with resumeSlot := slot, fresh := fresh } := by
    subst hu
    exact hold
  rw [current, hold'] at e
  have reached : holdEntry cause .current s = boundaryBook (cutReport f s) u := by
    rw [holdEntry_eq, demandHold_exposing (s := heldAt cause .current s) frame p, hu]
    exact holdCheck_of_drain (by rw [boundaryBook_eq]; rfl)
  subst hu
  exact ⟨r, a, slot, fresh, reached.trans e, ⟨outcome, cause', value, records.congr rfl rfl, level⟩, stays,
    fun p => ⟨done p, moves p⟩⟩

/-- R126: a frame in any other phase stays in hand. -/
theorem holdEntry_keeps (cause : HoldCause) {f : Frame} {s : State} (frame : s.cam.frame = some f)
    (early : ¬BeforeExposing s.cam.phase) (p : s.cam.phase ≠ .exposing) :
    holdEntry cause .current s = heldAt cause .current s := by
  have stays : demandHold (heldAt cause .current s) = heldAt cause .current s := by
    have frame' : (heldAt cause .current s).cam.frame = some f := frame
    rw [demandHold, frame']
    dsimp only
    split
    case h_5 q => exact absurd q p
    case h_1 q => exact absurd (.inl q) early
    case h_2 q => exact absurd (.inr (.inl q)) early
    case h_3 q => exact absurd (.inr (.inr (.inl q))) early
    case h_4 q => exact absurd (.inr (.inr (.inr q))) early
    all_goals rfl
  rw [holdEntry_eq, stays, holdCheck_of_frame (s := heldAt cause .current s) frame]

/-- Settles O24. -/
theorem holdEntryWithNothingInHandReachesHold : Obligations.HoldEntryWithNothingInHandReachesHold := by
  refine ⟨fun cause point s frame drain phase power => ?_, fun cause point s frame drain phase power seed => ?_,
    fun cause f c s run seed current frame kind drain => ?_⟩
  · obtain ⟨n, d, times, e, fresh, copied⟩ := holdEntry_parked cause point frame drain
      (by rcases phase with p | p <;> rw [p] <;> nofun) power
    obtain ⟨trapPhase, trapFrame, exposure, elapsed⟩ := holdDataAt_of_none cause point frame
    refine ⟨_, e.symm, rfl, rfl, rfl, rfl, rfl, rfl, rfl, ⟨_, rfl, rfl, decide_eq_true_iff, rfl, rfl, trapPhase, trapFrame,
      exposure, elapsed, rfl, rfl, rfl, rfl, rfl, rfl, fun g h => ?_, ?_, ?_, ?_, ?_, holdPoint_armed⟩, ?_, ?_⟩
    · simp only [holdDataAt, h]
    · rintro run seed rfl c current
      obtain ⟨f, resume, at_⟩ := holdPoint_running run seed .current
      obtain ⟨rfl, rfl, rfl⟩ := copied c seed f current
      rw [current] at resume at_
      exact ⟨resume, at_, f, rfl, rfl, rfl⟩
    · rintro k run seed rfl
      obtain ⟨f, resume, at_⟩ := holdPoint_running run seed (.stoppedAt k)
      obtain ⟨rfl, rfl, rfl⟩ := fresh f
      exact ⟨resume, at_, f, rfl, rfl, rfl⟩
    · rintro run seed rfl
      obtain ⟨f, resume, at_⟩ := holdPoint_running run seed .swapped
      obtain ⟨rfl, rfl, rfl⟩ := fresh f
      exact ⟨resume, at_, f, rfl, rfl, rfl⟩
    · intro run seed
      obtain ⟨f, resume, at_⟩ := holdPoint_seed run seed point
      obtain ⟨rfl, -, rfl⟩ := fresh f
      exact ⟨resume, at_, f, rfl, rfl⟩
    · exact fun seed => ⟨if_neg (by simp [seed]), if_neg (by simp [seed])⟩
    · exact fun seed => ⟨if_pos seed, if_pos seed⟩
  · obtain ⟨p, accrued, n, d, t, e⟩ := holdEntry_idleOn cause point frame drain phase power seed
    obtain ⟨trapPhase, trapFrame, -, -⟩ := holdDataAt_of_none cause point frame
    exact ⟨_, e.symm, rfl, rfl, rfl, accrued, rfl, rfl, rfl, rfl, _, rfl, rfl, trapPhase, trapFrame⟩
  · obtain ⟨fresh₀, resume, at_⟩ := holdPoint_running run seed .current
    rw [current] at resume at_
    obtain ⟨trapPhase, trapFrame, exposure, elapsed⟩ := holdDataAt_of_run cause .current frame kind
    have from_ : (holdDataAt cause .current s).heldFrom = .running := if_neg (by simp [run])
    have early (p : s.cam.phase = .waking ∨ s.cam.phase = .preparing) : (holdDataAt cause .current s).trapExposure = none :=
      exposure.trans (trapExposure_early p)
    have trapped (e : Exposure) (computed : f.exposure = some e) :
        (s.cam.phase = .setting → (holdDataAt cause .current s).trapExposure =
          some { mode := e.mode, value := if e.mode = .bulb then (e.ticks : Int) else e.sReq, gain := e.gReq }) ∧
        (s.cam.phase = .waitDue ∨ s.cam.phase = .exposing ∨ s.cam.phase = .writing →
          (holdDataAt cause .current s).trapExposure =
            e.applied.map fun a => { mode := e.mode, value := a.value, gain := a.gain }) :=
      ⟨fun p => by rw [exposure, p, trapExposure_setting computed], fun p => exposure.trans (trapExposure_late computed p)⟩
    by_cases before : BeforeExposing s.cam.phase
    · have notExposing : s.cam.phase ≠ .exposing := by rcases before with p | p | p | p <;> rw [p] <;> nofun
      have notWriting : s.cam.phase ≠ .writing := by rcases before with p | p | p | p <;> rw [p] <;> nofun
      obtain ⟨pow, r, a, slot, fresh, n, d, t, e, ⟨outcome, cause', value, records, level⟩, stays, moves, zero, copied⟩ :=
        holdEntry_cancels cause run seed frame drain before
      obtain ⟨run', number, segment, -⟩ := id records
      refine ⟨_, _, e.symm, rfl, rfl, from_, rfl, at_, trapPhase, trapFrame, rfl, elapsed, early, trapped, rfl, rfl, rfl, rfl,
        rfl, rfl, rfl, rfl, fun _ => ⟨rfl, rfl, rfl, rfl, rfl, unpoweredPhase_eq s.cam, ?_⟩, fun p => absurd p notExposing,
        fun p => absurd p notWriting, fun _ => ⟨⟨r, rfl, outcome, cause', number, run', segment, ?_, records, level⟩,
          fun np => ?_, fun p => ?_⟩, fun _ np => ?_⟩
      · exact (holdEntered_raised a).1
      · rw [value]
        exact congrArg Int.ofNat (elapsed.trans (if_neg notExposing)).symm
      · obtain ⟨rfl, rfl⟩ := stays np
        exact ⟨resolved_of_not_pending np, resume, fresh₀⟩
      · obtain ⟨done, rfl, rfl⟩ := moves p
        exact ⟨resolved_of_pending p, by rwa [(holdEntered_raised a).2], rfl, rfl, zero rfl⟩
      · obtain ⟨rfl, rfl⟩ := stays np
        exact copied c fresh₀ current
    by_cases exposing : s.cam.phase = .exposing
    · obtain ⟨r, a, slot, fresh, e, ⟨outcome, cause', value, records, level⟩, stays, moves⟩ :=
        holdEntry_cuts cause run frame exposing
      obtain ⟨run', number, segment, -⟩ := id records
      refine ⟨_, _, e.symm, rfl, rfl, from_, rfl, at_, trapPhase, trapFrame, rfl, elapsed, early, trapped, rfl, rfl, rfl, rfl,
        rfl, rfl, rfl, rfl, fun p => absurd p before, fun _ => ⟨rfl, rfl, rfl⟩,
        fun p => absurd (exposing.symm.trans p) nofun,
        fun _ => ⟨⟨r, rfl, outcome, cause', number, run', segment, ?_, records, level⟩, fun np => ?_, fun p => ?_⟩,
        fun p => absurd p before⟩
      · rw [value]
        exact congrArg Int.ofNat (elapsed.trans (if_pos exposing)).symm
      · obtain ⟨rfl, rfl⟩ := stays np
        exact ⟨resolved_of_not_pending np, resume, fresh₀⟩
      · obtain ⟨done, rfl, rfl⟩ := moves p
        exact ⟨resolved_of_pending p, done, rfl, rfl, rfl⟩
    · refine ⟨_, _, (holdEntry_keeps cause frame before exposing).symm, rfl, rfl, from_, rfl, at_, trapPhase, trapFrame, rfl,
        elapsed, early, trapped, rfl, rfl, rfl, rfl, rfl, rfl, rfl, rfl, fun p => absurd p before, fun p => absurd p exposing,
        fun _ => ⟨rfl, rfl, resume⟩, fun p => ?_, fun p => absurd p before⟩
      exact absurd p (by simpa only [BeforeExposing, not_or, exposing, and_true, not_false_eq_true, and_assoc] using before)

end Sys2Proof.Machine
end

section
/-! PROOFS. The end of a write, the frame boundary and the frame charge (R37, R111 to R113, R115, R121, R122, R155). -/

namespace Sys2Proof.Machine

/-! ## What follows a boundary -/

/-- A camera with nothing in hand is left as it is, or, kept on, is switched off (R117). -/
def AtRest (c c' : Camera) : Prop := c' = c ∨ (c.phase = .idleOn ∧ c' = { c with phase := .off, power := false })

/-- What the sequencer and the power monitor do after a boundary's record, with no frame in hand: neither the store nor the log,
and of the camera only that one kept on may be switched off. -/
def RunsOn (s t : State) : Prop :=
  ∃ q c p a, t = { s with seq := q, cam := c, pow := p, line := { s.line with alerts := a } } ∧ AtRest s.cam c

theorem AtRest.trans {c c' c'' : Camera} (h : AtRest c c') (k : AtRest c' c'') : AtRest c c'' := by
  rcases h with rfl | ⟨p, rfl⟩
  · exact k
  · rcases k with rfl | ⟨p', -⟩
    · exact .inr ⟨p, rfl⟩
    · cases p'

theorem AtRest.frame {c c' : Camera} (h : AtRest c c') : c'.frame = c.frame := by
  rcases h with rfl | ⟨-, rfl⟩ <;> rfl

theorem RunsOn.refl (s : State) : RunsOn s s := ⟨_, _, _, _, rfl, .inl rfl⟩

theorem RunsOn.trans {s t u : State} (h : RunsOn s t) (k : RunsOn t u) : RunsOn s u := by
  obtain ⟨_, _, _, _, rfl, hc⟩ := h
  obtain ⟨_, _, _, _, rfl, kc⟩ := k
  exact ⟨_, _, _, _, rfl, hc.trans kc⟩

theorem RunsOn.frame {s t : State} (h : RunsOn s t) : t.cam.frame = s.cam.frame := by
  obtain ⟨_, _, _, _, rfl, hc⟩ := h
  exact hc.frame

theorem RunsOn.of_seq (s : State) (q : Sequencer) : RunsOn s { s with seq := q } := ⟨_, _, _, _, rfl, .inl rfl⟩

theorem RunsOn.of_pow (s : State) (p : Power) : RunsOn s { s with pow := p } := ⟨_, _, _, _, rfl, .inl rfl⟩

theorem RunsOn.of_alert (a : Alert) (s : State) : RunsOn s (raiseAlert a s) := ⟨_, _, _, _, rfl, .inl rfl⟩

theorem RunsOn.of_levels {s t : State} (h : LevelsMoved s t) : RunsOn s t := by
  obtain ⟨_, _, _, _, rfl, -⟩ := h
  exact ⟨_, _, _, _, rfl, .inl rfl⟩

theorem keepOnOff_runsOn (s : State) : RunsOn s (keepOnOff s) := by
  unfold keepOnOff
  split
  case isTrue h =>
    obtain ⟨p, e⟩ := accrue_frame (s.modCam fun c => { c with phase := .off, power := false })
    rw [e]
    exact ⟨_, _, _, _, rfl, .inr ⟨h.1, rfl⟩⟩
  case isFalse => exact .refl s

theorem formLevels_runsOn (s : State) : RunsOn s (formLevels s) := by
  have levels : RunsOn s (levelled s) := .of_pow s _
  rw [formLevels_eq]
  split
  · exact levels.trans (keepOnOff_runsOn _)
  · exact (levels.trans (.of_levels (stretchChanged_moved _))).trans (keepOnOff_runsOn _)

theorem settleLevels_runsOn (s : State) : RunsOn s (settleLevels s) := (formLevels_runsOn s).trans (formLevels_runsOn _)

theorem chargeFrame_runsOn (s : State) : RunsOn s (chargeFrame s) := (RunsOn.of_pow s _).trans (settleLevels_runsOn _)

theorem enterEnded_runsOn (s : State) : RunsOn s (enterEnded s) := .of_seq s _

theorem holdCheck_runsOn (s : State) : RunsOn s (holdCheck s) := by
  unfold holdCheck
  split
  · split
    · exact enterEnded_runsOn s
    · exact (RunsOn.of_seq s _).trans (.of_alert .holdEntered _)
  · exact .refl s

theorem demandHold_runsOn {s : State} (h : s.cam.frame = none) : RunsOn s (demandHold s) := by
  by_cases p : s.cam.phase = .idleOn
  · obtain ⟨g, b, pow, e, -⟩ := setCamPower_moved false (s := s.modCam fun c => { c with phase := .off }) (by simp)
    rw [demandHold_of_idleOn h p, e]
    exact ⟨_, _, _, _, rfl, .inr ⟨p, rfl⟩⟩
  · rw [demandHold_of_nothing h p]
    exact .refl s

theorem holdEntry_runsOn (cause : HoldCause) (point : HoldPoint) {s : State} (h : s.cam.frame = none) :
    RunsOn s (holdEntry cause point s) :=
  ((RunsOn.of_seq s _).trans (demandHold_runsOn (s := heldAt cause point s) h)).trans (holdCheck_runsOn _)

theorem programEnded_runsOn (s : State) : RunsOn s (programEnded s) :=
  (enterEnded_runsOn s).trans (.of_alert .programEnded _)

theorem walk_runsOn (fuel slot count : Nat) {s : State} (h : s.cam.frame = none) : RunsOn s (walk fuel slot count s) := by
  induction fuel generalizing slot count s with
  | zero => exact holdEntry_runsOn .loop _ h
  | succ fuel ih =>
    have counts : RunsOn s (counted s) := .of_seq s _
    by_cases guard : 23 ≤ s.seq.walkCount
    · rw [walk_guarded guard]
      exact counts.trans (holdEntry_runsOn .loop _ h)
    · rw [walk_of_lt (by omega)]
      generalize hu : (if gateTrue _ _ = true then _ else _ : State) = u
      have enters : RunsOn s u := by
        subst hu
        split
        · exact .of_seq s _
        · exact counts
      have h' := enters.frame.trans h
      split
      · exact enters.trans (.of_seq u _)
      · refine enters.trans ?_
        unfold walkOn
        split
        · exact ih _ _ h'
        · exact ih _ _ h'
        · exact programEnded_runsOn u

theorem walkNext_runsOn (slot : Nat) {s : State} (h : s.cam.frame = none) : RunsOn s (walkNext slot s) := by
  unfold walkNext
  split
  · exact walk_runsOn 24 _ _ h
  · exact walk_runsOn 24 _ _ h
  · exact programEnded_runsOn s

theorem evaluateAtBoundary_runsOn {s : State} (h : s.cam.frame = none) : RunsOn s (evaluateAtBoundary s) := by
  unfold evaluateAtBoundary
  split
  · exact .refl s
  · rename_i c _
    have noted : RunsOn s (noteEvaluation c.slot s) := .of_seq s _
    dsimp only
    split
    · exact noted.trans (walkNext_runsOn c.slot h)
    · split
      · obtain ⟨_, _, e⟩ := reanchor_seq (noteEvaluation c.slot s)
        rw [e]
        exact noted.trans (.of_seq _ _)
      · exact noted

/-- R37: after the record of a boundary, whatever the sequencer does. -/
theorem frameBoundary_runsOn (r : Report) {s : State} (h : s.cam.frame = none) :
    RunsOn (boundaryBook r s) (frameBoundary r s) := by
  have h' : (boundaryBook r s).cam.frame = none := by rwa [boundaryBook_eq]
  unfold frameBoundary
  generalize boundaryBook r s = b at *
  dsimp only
  split
  case h_1 =>
    split
    · exact enterEnded_runsOn b
    · split
      · exact holdEntry_runsOn .camera _ h'
      · split
        · exact walk_runsOn 24 _ _ h'
        · exact evaluateAtBoundary_runsOn h'
  case h_2 =>
    split
    · exact .of_seq b _
    · exact .refl b
  all_goals exact .refl b

/-! ## The frame charge -/

/-- R158: a charge level formed again at the same account stays. -/
theorem nextChargeLevel_idem (level pm : Nat) : nextChargeLevel (nextChargeLevel level pm) pm = nextChargeLevel level pm := by
  have up_le_down : upLevel pm ≤ downLevel pm := by
    unfold upLevel downLevel
    repeat' split
    all_goals omega
  unfold nextChargeLevel
  repeat' split
  all_goals omega

theorem formLevels_pow {s : State} (h : s.cam.phase ≠ .idleOn) : (formLevels s).pow = (levelled s).pow := by
  rw [formLevels_eq]
  split
  · rw [keepOnOff_of_not_idleOn (s := levelled s) h]
  · obtain ⟨_, e⟩ := stretchChanged_frame (levelled s)
    rw [e, keepOnOff_of_not_idleOn (by exact h)]

/-- R151, R158: formed once more at the same account, the levels stay. -/
theorem settleLevels_pow {s : State} (h : s.cam.phase ≠ .idleOn) : (settleLevels s).pow = (levelled s).pow := by
  obtain ⟨_, _, _, _, moved, -⟩ := formLevels_moved h
  have again := formLevels_pow (s := formLevels s) (by rw [moved]; exact h)
  have account : perMille (formLevels s) = perMille s := by rw [moved]; rfl
  refine again.trans ?_
  simp only [levelled, State.modPow, account, formLevels_pow h, nextChargeLevel_idem]

/-- R155: a frame charge takes whole mA·s, and so leaves the remainder. -/
theorem takeCharge_whole (n : Nat) {p : Power} (h : p.remainder < 1024000) :
    takeCharge (n * 1024000) p = { p with account := p.account - n } := by
  rw [takeCharge, Nat.add_mul_mod_self_right, Nat.mod_eq_of_lt h, Nat.add_mul_div_right _ _ (by omega),
    Nat.div_eq_of_lt h, Nat.zero_add]

/-- R155: the frame charge. -/
theorem chargeFrame_eq {s : State} (r : s.pow.remainder < 1024000) :
    chargeFrame s =
      settleLevels { s with pow := { s.pow with account := s.pow.account - s.params.frameCharge } } := by
  rw [chargeFrame, State.modPow, takeCharge_whole _ r]

/-- R155, R158: for a camera that is not kept on. -/
theorem chargeFrame_pow {s : State} (h : s.cam.phase ≠ .idleOn) (r : s.pow.remainder < 1024000) :
    (chargeFrame s).pow.account = s.pow.account - s.params.frameCharge ∧
      (chargeFrame s).pow.remainder = s.pow.remainder ∧ (chargeFrame s).pow.lastAccrual = s.pow.lastAccrual ∧
      (chargeFrame s).pow.chargeLevel =
        nextChargeLevel s.pow.chargeLevel
          ((s.pow.account - s.params.frameCharge) * 1000 / (s.params.capacity * 3600)) := by
  rw [chargeFrame_eq r, settleLevels_pow (by exact h)]
  exact ⟨rfl, rfl, rfl, rfl⟩

/-! ## The boundary's record -/

/-- R41: the debounce of an evaluation keeps the entry record's other fields. -/
theorem debounceUpdate_same (g : Segment) (fresh : Option Int) (e : Entry) :
    ∃ n, debounceUpdate g fresh e = { e with debounce := n } := by
  unfold debounceUpdate
  split <;> exact ⟨_, rfl⟩

/-- R37: an outcome counts TAKEN and UNCONFIRMED. -/
theorem countFrame_eq (o : Outcome) (e : Entry) :
    countFrame o e =
      { e with
        exposureCount :=
          if o = .taken ∨ o = .unconfirmed then min (e.exposureCount + 1) 65535 else e.exposureCount } := by
  cases o <;> rfl

theorem bookedEntry_spec (r : Report) (s : State) (c : Current) :
    ∃ n, bookedEntry r s c = { countFrame r.outcome c.entry with debounce := n } := by
  unfold bookedEntry
  split
  · exact debounceUpdate_same _ _ _
  · exact ⟨_, rfl⟩

/-- R41: a fresh average moves the debounce of a light termination, in RUNNING without the stop-pending mark. -/
theorem bookedEntry_fresh {r : Report} {s : State} {c : Current} {m : Metered} (host : r.byStop = false)
    (run : s.seq.state = .running) (go : s.seq.stopPending = false) (metered : r.frame.metered = some m)
    (onTime : m.late = false) :
    ((segmentAt s c.slot).term = .lightBelow →
      (bookedEntry r s c).debounce =
        if m.value < (segmentAt s c.slot).termArg.toInt then min (c.entry.debounce + 1) 3 else 0) ∧
    ((segmentAt s c.slot).term = .lightAbove →
      (bookedEntry r s c).debounce =
        if (segmentAt s c.slot).termArg.toInt ≤ m.value then min (c.entry.debounce + 1) 3 else 0) := by
  have fresh : freshAverage r.frame = some m.value := by simp [freshAverage, metered, onTime]
  rw [bookedEntry, if_pos ⟨run, go, host⟩, fresh, countFrame_eq]
  constructor <;> intro t <;> simp only [debounceUpdate, t]

/-- R41: otherwise the debounce stays. -/
theorem bookedEntry_stays {r : Report} {s : State} {c : Current}
    (h : s.seq.state ≠ .running ∨ s.seq.stopPending = true ∨
      (∃ m : Metered, r.frame.metered = some m ∧ m.late = true) ∨ r.frame.metered = none ∨
      ((segmentAt s c.slot).term ≠ .lightBelow ∧ (segmentAt s c.slot).term ≠ .lightAbove)) :
    (bookedEntry r s c).debounce = c.entry.debounce := by
  unfold bookedEntry
  split
  case isFalse => rw [countFrame_eq]
  case isTrue taken =>
    obtain ⟨run, go, -⟩ := taken
    rcases h with h | h | ⟨m, metered, late⟩ | metered | ⟨below, above⟩
    · exact absurd run h
    · exact absurd (go.symm.trans h) nofun
    · have stale : freshAverage r.frame = none := by simp [freshAverage, metered, late]
      simp [debounceUpdate, stale, countFrame_eq]
    · have none : freshAverage r.frame = none := by simp [freshAverage, metered]
      simp [debounceUpdate, none, countFrame_eq]
    · simp [debounceUpdate, below, above, countFrame_eq]

/-! ## What a boundary comes to -/

section
variable {r : Report} {s : State}

theorem boundaryBook_seq (r : Report) (s : State) :
    (boundaryBook r s).seq = { s.seq with current := bookedCurrent r s, hold := resolvedHold s } := by
  rw [boundaryBook_eq]

/-- R30, R37: with the stop-pending mark the run ends. -/
theorem frameBoundary_stop (run : s.seq.state = .running) (stop : s.seq.stopPending = true) :
    frameBoundary r s = enterEnded (boundaryBook r s) := by
  simp [frameBoundary, boundaryBook_seq, run, stop]

/-- R37, R115: the fault limit holds the run. -/
theorem frameBoundary_limit (run : s.seq.state = .running) (go : s.seq.stopPending = false) (limit : r.faultLimit = true) :
    frameBoundary r s =
      holdEntry .camera (if s.prog.commitPending = true then .swapped else .current) (boundaryBook r s) := by
  simp [frameBoundary, boundaryBook_seq, run, go, limit]

/-- R18, R37: after a swap the walk starts again. -/
theorem frameBoundary_swap (run : s.seq.state = .running) (go : s.seq.stopPending = false) (limit : r.faultLimit = false)
    (pending : s.prog.commitPending = true) : frameBoundary r s = walkFrom 0 0 (boundaryBook r s) := by
  simp [frameBoundary, boundaryBook_seq, run, go, limit, pending]

/-- R37 step 7. -/
theorem frameBoundary_evaluate (run : s.seq.state = .running) (go : s.seq.stopPending = false)
    (limit : r.faultLimit = false) (pending : s.prog.commitPending = false) :
    frameBoundary r s = evaluateAtBoundary (boundaryBook r s) := by
  simp [frameBoundary, boundaryBook_seq, run, go, limit, pending]

/-- R37, R133: in HOLDING the fault limit is offered to the latch. -/
theorem frameBoundary_holding (q : s.seq.state = .holding) :
    frameBoundary r s =
      if (r.faultLimit && !s.seq.ending) = true then offerLatch .camera (boundaryBook r s) else boundaryBook r s := by
  simp [frameBoundary, boundaryBook_seq, q]

end

/-- R37, R40, R46: an evaluation with a segment current: the walk goes on, or a stretch change is applied. -/
theorem evaluateAtBoundary_eq {s v : State} {c : Current} (h : s.seq.current = some c)
    (e : v = { s with seq := { s.seq with
                               current := some { slot := c.slot, entry := takeW0 s.tb (segmentAt s c.slot) c.entry } } }) :
    evaluateAtBoundary s =
      if terminationTrue s (segmentAt s c.slot) (takeW0 s.tb (segmentAt s c.slot) c.entry) = true then walkNext c.slot v
      else if s.seq.stretchPending = true then reanchor v else v := by
  have noted : noteEvaluation c.slot s = v := by
    rw [e, noteEvaluation, modEntry, State.modSeq, h]
    rfl
  rw [evaluateAtBoundary, h]
  dsimp only
  rw [noted, e]
  rfl

end Sys2Proof.Machine
end

section
/-! PROOFS. The outcome of a frame whose write ends (R111 to R113, R115, R121, R122). -/

namespace Sys2Proof.Machine

/-! ## READY, SYNC and the drop watch -/

section
variable {s : State} {f : Frame} {n : Nat}

theorem exec_readyChange {rise : Bool} (h : s.cam.ready = !rise) :
    exec (.readyChange rise) s = .next (endEvent s (readyChange rise s)) := by
  have occasion : (s.cam.ready != rise) = true := by rw [h]; cases rise <;> rfl
  exact congrArg Host.Outcome.next (if_pos occasion)

/-- R112: in WRITING, READY falling in the drop watch puts the write in progress; rising, it completes one in progress. -/
theorem exec_readyFall (w : s.cam.phase = .writing) (ready : s.cam.ready = true) (stage : s.cam.stage = .dropWatch n) :
    exec (.readyChange false) s =
      .next (endEvent s { s with cam := { s.cam with ready := false, stage := .inProgress } }) := by
  rw [exec_readyChange ready]
  simp [readyChange, w, ready, stage, State.modCam]

theorem exec_readyRise (w : s.cam.phase = .writing) (ready : s.cam.ready = false) (stage : s.cam.stage = .inProgress) :
    exec (.readyChange true) s =
      .next (endEvent s (settleIfReady
        { s with cam := { s.cam with ready := true, stage := .complete, writeTimeoutAt := none } })) := by
  rw [exec_readyChange ready]
  simp [readyChange, completeWrite, w, ready, stage, State.modCam]

/-- R112: the drop watch ends with READY still high. -/
theorem exec_dropWatchExpiry (w : s.cam.phase = .writing) (stage : s.cam.stage = .dropWatch n) (due : n ≤ s.tb.runCounter) :
    exec .dropWatchExpiry s =
      .next (endEvent s (settleIfReady { s with cam := { s.cam with stage := .complete, writeTimeoutAt := none } })) := by
  have occasion : dropWatchDue s = true := by simp [dropWatchDue, stage, w, now, due]
  exact congrArg Host.Outcome.next (if_pos occasion)

/-- R111: a closure in the open window sets the frame's mark; outside it only the contact is noted. -/
theorem exec_syncClosure_in_window (h : s.cam.frame = some f) (window : s.cam.syncWindowAt = some n) :
    exec .syncClosure s =
      .next (endEvent s (settleIfReady
        { s with cam := { s.cam with syncClosed := true, frame := some { f with syncSeen := true } } })) := by
  change Host.Outcome.next (endEvent s (syncClosure s)) = _
  simp [syncClosure, h, window, State.modCam]

theorem exec_syncClosure_outside (window : s.cam.syncWindowAt = none) :
    exec .syncClosure s = .next (endEvent s { s with cam := { s.cam with syncClosed := true } }) := by
  change Host.Outcome.next (endEvent s (syncClosure s)) = _
  unfold syncClosure
  cases s.cam.frame <;> simp [window, State.modCam]

/-- R111: the window closes. -/
theorem exec_syncWindowExpiry (window : s.cam.syncWindowAt = some n) (due : n ≤ s.tb.runCounter) :
    exec .syncWindowExpiry s =
      .next (endEvent s (settleIfReady { s with cam := { s.cam with syncWindowAt := none } })) := by
  have occasion : syncWindowDue s = true := by simp [syncWindowDue, reached, window, now, due]
  exact congrArg Host.Outcome.next (if_pos occasion)

/-- R113: the outcome waits for the write, and for the closure or the end of an open window. -/
theorem settleIfReady_waits (h : s.cam.frame = some f)
    (waits : s.cam.stage ≠ .complete ∨ (f.hasWindow = true ∧ f.syncSeen = false ∧ s.cam.syncWindowAt ≠ none)) :
    settleIfReady s = s := by
  rw [settleIfReady, h]
  refine if_neg ?_
  rcases waits with stage | ⟨has, seen, window⟩
  · simp [outcomeSettled, stage]
  · simp [outcomeSettled, has, seen, window]

theorem next_of_waits {s₀ : State} (h : s.cam.frame = some f)
    (waits : s.cam.stage ≠ .complete ∨ (f.hasWindow = true ∧ f.syncSeen = false ∧ s.cam.syncWindowAt ≠ none)) :
    (.next (endEvent s₀ (settleIfReady s)) : Host.Outcome State Fault Refusal) = .next (endEvent s₀ s) := by
  rw [settleIfReady_waits h waits]

theorem settleIfReady_settles (h : s.cam.frame = some f) (w : s.cam.phase = .writing) (stage : s.cam.stage = .complete)
    (seen : s.cam.syncWindowAt = none ∨ f.hasWindow = false ∨ f.syncSeen = true) :
    settleIfReady s = frameOutcome false f s := by
  rw [settleIfReady, h]
  refine if_pos ?_
  rcases seen with e | e | e <;> simp [outcomeSettled, w, stage, e]

end

/-- R112, R113: the rows that end a write: it completes with nothing left to see, or what the outcome waited for comes. -/
def WriteEnds (s : State) (c : Instr) (n : Nat) (f f' : Frame) : Prop :=
  (f' = f ∧ (s.cam.syncWindowAt = none ∨ f.hasWindow = false ∨ f.syncSeen = true) ∧
      ((c = .readyChange true ∧ s.cam.ready = false ∧ s.cam.stage = .inProgress) ∨
        (c = .dropWatchExpiry ∧ s.cam.stage = .dropWatch n ∧ n ≤ s.tb.runCounter))) ∨
    (s.cam.stage = .complete ∧ s.cam.syncWindowAt = some n ∧
      ((c = .syncClosure ∧ f' = { f with syncSeen := true }) ∨ (c = .syncWindowExpiry ∧ f' = f ∧ n ≤ s.tb.runCounter)))

/-- R113: such a row settles the frame's outcome. -/
theorem WriteEnds.exec {s : State} {c : Instr} {n : Nat} {f f' : Frame} (e : WriteEnds s c n f f')
    (h : s.cam.frame = some f) (w : s.cam.phase = .writing) :
    ∃ cam : Camera, Machine.exec c s = .next (endEvent s (frameOutcome false f' { s with cam := cam })) ∧
      cam.frame = some f' ∧ cam.faultCount = s.cam.faultCount := by
  have settles {cam : Camera} (x : Machine.exec c s = .next (endEvent s (settleIfReady { s with cam := cam })))
      (frame : cam.frame = some f') (phase : cam.phase = .writing) (stage : cam.stage = .complete)
      (seen : cam.syncWindowAt = none ∨ f'.hasWindow = false ∨ f'.syncSeen = true)
      (faults : cam.faultCount = s.cam.faultCount) :
      ∃ cam : Camera, Machine.exec c s = .next (endEvent s (frameOutcome false f' { s with cam := cam })) ∧
        cam.frame = some f' ∧ cam.faultCount = s.cam.faultCount :=
    ⟨cam, by rw [x, settleIfReady_settles (s := { s with cam := cam }) frame phase stage seen], frame, faults⟩
  rcases e with ⟨rfl, seen, ⟨rfl, ready, stage⟩ | ⟨rfl, stage, due⟩⟩ | ⟨stage, window, ⟨rfl, rfl⟩ | ⟨rfl, rfl, due⟩⟩
  · exact settles (exec_readyRise w ready stage) h w rfl seen rfl
  · exact settles (exec_dropWatchExpiry w stage due) h w rfl seen rfl
  · exact settles (exec_syncClosure_in_window h window) rfl w stage (.inr (.inr rfl)) rfl
  · exact settles (exec_syncWindowExpiry window due) h w stage (.inl rfl) rfl

/-! ## The outcome -/

/-- R113: the outcome of a frame written. -/
theorem writtenOutcome_eq (f : Frame) :
    writtenOutcome f = if f.hasWindow = true ∧ f.syncSeen = false then .unconfirmed else .taken := by
  simp [writtenOutcome]

theorem writtenOutcome_or (f : Frame) : writtenOutcome f = .unconfirmed ∨ writtenOutcome f = .taken := by
  unfold writtenOutcome
  split <;> simp

/-- R115: the fault-limit mark of a frame written. -/
theorem faultMark_written (f : Frame) (s : State) :
    faultMark (writtenOutcome f) false s = true ↔
      writtenOutcome f = .unconfirmed ∧ s.params.faultLimit ≤ s.cam.faultCount := by
  rcases writtenOutcome_or f with e | e <;> simp [e, faultMark, isFault]

theorem WriteEnds.same {s : State} {c : Instr} {n : Nat} {f f' : Frame} (e : WriteEnds s c n f f') :
    ∃ seen, f' = { f with syncSeen := seen } := by
  rcases e with ⟨rfl, -⟩ | ⟨-, -, ⟨-, rfl⟩ | ⟨-, rfl, -⟩⟩ <;> exact ⟨_, rfl⟩

/-- R113, R116, R121: the camera after a frame written is off, or after a run frame kept on; nothing else moves but the levels and
what they move. -/
theorem settlePower_spec (f : Frame) (s : State) :
    ∃ g b p ph on,
      settlePower f (s.modCam endWriting) =
        { s with
          seq := { s.seq with grid := g, stretchPending := b }
          cam := { endWriting s.cam with phase := ph, power := on }, pow := p } ∧
      ((ph = .off ∧ on = false) ∨ (ph = .idleOn ∧ f.kind = .run)) ∧
      (s.seq.state ≠ .running → g = s.seq.grid ∧ b = s.seq.stretchPending) ∧ (frameInFlight s = true → g = s.seq.grid) := by
  unfold settlePower
  split
  case isTrue keeps =>
    exact ⟨_, _, _, .idleOn, _, rfl, .inr ⟨rfl, keeps.1⟩, fun _ => ⟨rfl, rfl⟩, fun _ => rfl⟩
  case isFalse =>
    obtain ⟨g, b, p, e, parked, flight⟩ := setCamPower_moved false
      (s := (s.modCam endWriting).modCam fun c => { c with phase := .off }) (by simp)
    exact ⟨g, b, p, .off, false, e, .inl ⟨rfl, rfl⟩, parked, flight⟩

/-- R115: what an outcome of a write does to the fault count. -/
theorem updateFaults_written (f : Frame) (s : State) :
    updateFaults (writtenOutcome f) false s =
      { s with
        cam := { s.cam with
                 faultCount := if writtenOutcome f = .unconfirmed then min (s.cam.faultCount + 1) 15 else 0 }
        line := if writtenOutcome f = .unconfirmed then { s.line with alerts := s.line.alerts ||| 0x0010 } else s.line } := by
  rcases writtenOutcome_or f with e | e <;> simp [e, updateFaults, addFault, raiseAlert, State.modCam, State.modLine, Alert.bit]

/-- R113, R115: a run frame's write has ended: the report, and the state that the boundary starts from. -/
def RunFrameWritten (s : State) (f f' : Frame) (u : State) (r : Report) : Prop :=
  r.frame = f' ∧ r.cause = .none ∧ r.byStop = false ∧
  r.value = ((f.exposure.bind fun e => e.applied).map fun a => a.value).getD 0 ∧
  r.outcome = (if f'.hasWindow = true ∧ f'.syncSeen = false then .unconfirmed else .taken) ∧
  (r.faultLimit = true ↔ r.outcome = .unconfirmed ∧ s.params.faultLimit ≤ u.cam.faultCount) ∧
  u.cam.faultCount = (if r.outcome = .unconfirmed then min (s.cam.faultCount + 1) 15 else 0) ∧
  u.line = (if r.outcome = .unconfirmed then { s.line with alerts := s.line.alerts ||| 0x0010 } else s.line) ∧
  u.cam.frame = none ∧ (u.cam.phase = .off ∧ u.cam.power = false ∨ u.cam.phase = .idleOn) ∧
  u.cam.stage = .none ∧ u.cam.writeTimeoutAt = none ∧ u.cam.syncWindowAt = none ∧
  u.seq = { s.seq with stretchPending := u.seq.stretchPending } ∧ u.log = s.log ∧ u.ramp = s.ramp ∧
  u.prog = s.prog ∧ u.meter = s.meter ∧ u.tb = s.tb ∧ u.params = s.params

theorem WriteEnds.run_frame {s : State} {c : Instr} {n : Nat} {f f' : Frame} (e : WriteEnds s c n f f')
    (h : s.cam.frame = some f) (k : f.kind = .run) (w : s.cam.phase = .writing) :
    ∃ u r, Machine.exec c s = .next (endEvent s (chargeFrame (frameBoundary r u))) ∧ RunFrameWritten s f f' u r := by
  obtain ⟨cam, ends, frame, faults⟩ := e.exec h w
  obtain ⟨seen, same⟩ := e.same
  have kind : f'.kind = .run := by rw [same]; exact k
  obtain ⟨g, b, p, ph, on, settled, off, -, flight⟩ := settlePower_spec f' { s with cam := cam }
  have grid : g = s.seq.grid := flight ((frameInFlight_iff _).mpr ⟨f', frame, kind⟩)
  have outcome : frameOutcome false f' { s with cam := cam } =
      chargeFrame (reportOutcome (writtenOutcome f') .none false (finishedValue f') f'
        (settlePower f' (({ s with cam := cam } : State).modCam endWriting))) := rfl
  rw [outcome, settled, reportOutcome, kind] at ends
  dsimp only at ends
  rw [updateFaults_written] at ends
  refine ⟨_, _, ends, rfl, rfl, rfl, ?_, writtenOutcome_eq f', ?_, ?_, rfl, rfl, ?_, rfl, rfl, rfl, ?_, rfl, rfl, rfl, rfl,
    rfl, rfl⟩
  · rw [same]
    rfl
  · exact faultMark_written f' _
  · dsimp only [State.modCam, endWriting]
    rw [faults]
  · rcases off with off | ⟨idleOn, -⟩
    · exact .inl off
    · exact .inr idleOn
  · dsimp only [State.modCam]
    rw [grid]

/-- R121, R122: a test shot's write has ended: the camera is off, the result is in the test-shot record. -/
theorem WriteEnds.test_shot {s : State} {c : Instr} {n : Nat} {f f' : Frame} (e : WriteEnds s c n f f')
    (h : s.cam.frame = some f) (k : f.kind = .test) (w : s.cam.phase = .writing) (idle : s.seq.state ≠ .running) :
    ∃ cam p, Machine.exec c s =
        .next (endEvent s (chargeFrame (writeTest (writtenOutcome f') f'
          { s with cam := { endWriting cam with phase := .off, power := false }, pow := p }))) ∧
      cam.faultCount = s.cam.faultCount := by
  obtain ⟨cam, ends, frame, faults⟩ := e.exec h w
  obtain ⟨seen, same⟩ := e.same
  have kind : f'.kind = .test := by rw [same]; exact k
  obtain ⟨g, b, p, ph, on, settled, off, parked, -⟩ := settlePower_spec f' { s with cam := cam }
  obtain ⟨rfl, rfl⟩ := parked idle
  have outcome : frameOutcome false f' { s with cam := cam } =
      chargeFrame (reportOutcome (writtenOutcome f') .none false (finishedValue f') f'
        (settlePower f' (({ s with cam := cam } : State).modCam endWriting))) := rfl
  rw [outcome, settled, reportOutcome, kind] at ends
  rcases off with ⟨rfl, rfl⟩ | ⟨-, run⟩
  · exact ⟨cam, p, ends, faults⟩
  · exact absurd (kind.symm.trans run) nofun

/-! ## The boundary after the outcome -/

/-- R37, R113, R117, R155: after a run frame has been written, its boundary taken and its charge made, the camera has nothing in
hand and one record more stands in the log. -/
theorem RunFrameWritten.after {s u : State} {f : Frame} {r : Report} (written : RunFrameWritten s f f u r)
    (pending : s.prog.commitPending = false) :
    ∃ q cam p a rec,
      chargeFrame (frameBoundary r u) =
        { u with
          seq := q, cam := cam, pow := p, log := storeRecord s.params.logSize rec s.log
          line := { u.line with alerts := a } } ∧
      AtRest u.cam cam ∧ (rec.outcome = r.outcome ∧ rec.cause = r.cause ∧ rec.value = r.value ∧ RecordsFrame s f rec) := by
  obtain ⟨frame, -, -, -, -, -, -, -, nothing, -, -, -, -, seq, log, -, prog, -, tb, params⟩ := written
  obtain ⟨rec, a, booked, ⟨outcome, cause, value, records, -⟩, -⟩ := boundaryBook_spec r u
  obtain ⟨q, cam, p, a', after, rest⟩ := (frameBoundary_runsOn r nothing).trans (chargeFrame_runsOn _)
  rw [booked] at rest
  rw [after, booked, resolved_of_not_pending (by rw [prog]; exact pending), params, log]
  exact ⟨q, cam, p, a', rec, rfl, rest, outcome, cause, value, frame ▸ records.congr tb.symm (by rw [seq])⟩

/-- R37: the entry record after a boundary. -/
theorem boundary_current {r : Report} {s : State} {c : Current} (h : s.seq.current = some c) :
    (boundaryBook r s).seq.current = some { slot := c.slot, entry := bookedEntry r s c } := by
  rw [boundaryBook_seq, bookedCurrent, h]
  rfl

/-- R37 step 7: a boundary that counts a frame evaluates the segment's termination, with the clock and the level of the event. -/
theorem frameBoundary_evaluates {r : Report} {s v : State} {c : Current} {e : Entry} (current : s.seq.current = some c)
    (run : s.seq.state = .running) (go : s.seq.stopPending = false) (limit : r.faultLimit = false)
    (pending : s.prog.commitPending = false) (he : e = takeW0 s.tb (segmentAt s c.slot) (bookedEntry r s c))
    (hv : v = { boundaryBook r s with
                seq := { (boundaryBook r s).seq with current := some { slot := c.slot, entry := e } } }) :
    frameBoundary r s =
      if terminationTrue s (segmentAt s c.slot) e = true then walkNext c.slot v
      else if s.seq.stretchPending = true then reanchor v else v := by
  have segment : segmentAt (boundaryBook r s) c.slot = segmentAt s c.slot := by
    rw [segmentAt, boundaryBook_eq, resolved_of_not_pending pending]
    rfl
  have clock : (boundaryBook r s).tb = s.tb := by rw [boundaryBook_eq]
  have termination : terminationTrue (boundaryBook r s) (segmentAt s c.slot) e = terminationTrue s (segmentAt s c.slot) e := by
    rw [boundaryBook_eq]
    rfl
  have stretch : (boundaryBook r s).seq.stretchPending = s.seq.stretchPending := by rw [boundaryBook_seq]
  rw [frameBoundary_evaluate run go limit pending,
    evaluateAtBoundary_eq (boundary_current (r := r) current) (v := v) (by simp only [hv, he, segment, clock]),
    segment, clock, ← he, termination, stretch]

/-- Settles O50. -/
theorem writingEndsInTheFramesOutcome : Obligations.WritingEndsInTheFramesOutcome := by
  refine ⟨fun f s h k w => ⟨fun n ready stage => exec_readyFall w ready stage, fun n stage window =>
      ⟨(exec_syncClosure_in_window h window).trans (next_of_waits rfl (.inl stage)), fun due =>
        (exec_syncWindowExpiry window due).trans (next_of_waits h (.inl stage))⟩,
    fun window _ => exec_syncClosure_outside window, fun n m has seen window =>
      ⟨fun ready stage => (exec_readyRise w ready stage).trans (next_of_waits h (.inr ⟨has, seen, by simp [window]⟩)),
        fun stage due => (exec_dropWatchExpiry w stage due).trans (next_of_waits h (.inr ⟨has, seen, by simp [window]⟩))⟩,
    fun pending window c n ends => ?_, fun c n f' ends => WriteEnds.run_frame ends h k w⟩,
    fun f f' c n s h k w idle ends => ?_, fun r c s b current host e => ?_, fun s off r => chargeFrame_pow off r⟩
  · obtain ⟨u, r, exec, written⟩ := WriteEnds.run_frame (n := n) (.inl ⟨rfl, .inl window, ends⟩) h k w
    obtain ⟨q, cam, p, a, rec, after, rest, outcome, cause, value, run, number, segment, lAvg, eT, mode, -⟩ :=
      written.after pending
    obtain ⟨-, cause', -, value', outcome', -, faults, -, nothing, off, stage, timeout, -, -, -, ramp, prog, -, tb, params⟩ :=
      written
    rw [outcome'] at outcome faults
    refine ⟨_, rec, exec, ?_⟩
    rw [after]
    have count : u.cam.faultCount =
        if f.hasWindow = true ∧ f.syncSeen = false then min (s.cam.faultCount + 1) 15 else 0 := by
      rw [faults]
      by_cases unseen : f.hasWindow = true ∧ f.syncSeen = false <;> simp only [unseen] <;> rfl
    refine ⟨rfl, cause.trans cause', number, segment, run, lAvg, eT, mode, value.trans value', outcome, ?_⟩
    rcases rest with rfl | ⟨-, rfl⟩
    · exact ⟨count, nothing, off, stage, timeout, ramp, prog, tb, params⟩
    · exact ⟨count, nothing, .inl ⟨rfl, rfl⟩, stage, timeout, ramp, prog, tb, params⟩
  · obtain ⟨cam, p, exec, faults⟩ := WriteEnds.test_shot ends h k w idle
    obtain ⟨seen, rfl⟩ := WriteEnds.same ends
    refine ⟨_, exec, ?_, rfl, rfl, rfl, rfl, rfl, rfl, rfl, rfl, faults, rfl, rfl, rfl, rfl, rfl, rfl⟩
    rw [writtenOutcome_eq]
    rfl
  · subst e
    obtain ⟨rec, a, booked, ⟨outcome, cause, value, ⟨-, number, segment, -⟩, -⟩, done⟩ := boundaryBook_spec r s
    obtain ⟨n, entry⟩ := bookedEntry_spec r s c
    rw [countFrame_eq] at entry
    refine ⟨⟨rec, by rw [booked], outcome, cause, number, segment, value⟩,
      ⟨bookedEntry r s c, boundary_current current, by rw [entry], by rw [entry], by rw [entry], by rw [entry],
        fun m run go metered onTime => bookedEntry_fresh host run go metered onTime, bookedEntry_stays⟩,
      fun np => ?_, fun p => ?_, fun run stop => frameBoundary_stop run stop,
      fun run go => ⟨frameBoundary_limit run go, frameBoundary_swap run go, fun e v limit np he hv => ?_⟩,
      fun q => ⟨fun limit ending => ?_, fun off => ?_⟩⟩
    · rw [booked]
      exact ⟨resolved_of_not_pending np, if_neg (by simp [np])⟩
    · rw [booked]
      refine ⟨resolved_of_pending p, done p, fun h q hold from_ => ?_⟩
      rw [resolvedHold, if_pos ⟨p, q⟩, hold, Option.map_some, resumeAtZero_of_running from_]
    · rw [boundary_current current, Option.map_some, Option.some.injEq] at he
      rw [frameBoundary_evaluates current run go limit np he.symm hv]
      exact ⟨fun ends => if_pos ends, fun stays => if_neg (by simp [stays])⟩
    · rw [frameBoundary_holding q, if_pos (by simp [limit, ending])]
    · rw [frameBoundary_holding q, if_neg]
      rcases off with off | off <;> simp [off]

end Sys2Proof.Machine
end

section
/-! PROOFS. Idle steps, read-backs and terminations (R22, R23, R39 to R41, R195). -/

namespace Sys2Proof.Machine

/-! ## The step with no command waiting -/

theorem runTick_of_lt {tb : Timebase} (h : tb.runCounter + 1 < 2 ^ 48) :
    runTick tb = { tb with runCounter := tb.runCounter + 1 } := by
  rw [runTick, if_pos (by omega)]

theorem wallTick_eq (tb : Timebase) :
    wallTick tb =
      { tb with
        seconds := if tb.ticks < 1023 then tb.seconds else (tb.seconds + 1) % 2 ^ 32
        ticks := if tb.ticks < 1023 then tb.ticks + 1 else 0 } := by
  unfold wallTick
  split <;> rfl

/-- R187, entry 11: the break timer by what LRX has shown, a fall before a return. -/
theorem breakTick_eq (t : Nat) (l : LinePort) :
    breakTick t l =
      if (!l.awaitHigh && l.state != .dormant && Config.lrxFell t) = true then some (t + 64)
      else if (!l.awaitHigh && Config.lrxReturned t) = true then none else l.breakAt := by
  unfold breakTick
  cases l.awaitHigh <;> simp

/-- R186, entry 9: the gap timer by whether a byte has come. -/
theorem gapAt_lineTick (t : Nat) (l : LinePort) :
    (lineTick t l).gapAt = if Config.byteArrived t = true ∧ l.gapAt ≠ none then some (t + 32) else l.gapAt := by
  unfold lineTick
  cases l.gapAt <;> cases Config.byteArrived t <;> rfl

theorem lineTick_eq (t : Nat) (l : LinePort) :
    lineTick t l =
      { l with
        gapAt := if Config.byteArrived t = true ∧ l.gapAt ≠ none then some (t + 32) else l.gapAt
        breakAt :=
          if (!l.awaitHigh && l.state != .dormant && Config.lrxFell t) = true then some (t + 64)
          else if (!l.awaitHigh && Config.lrxReturned t) = true then none else l.breakAt } := by
  rw [← gapAt_lineTick, ← breakTick_eq]
  rfl

/-- R22, R23: a tick below the counter's top. -/
theorem tick_of_lt {s : State} (h : s.tb.runCounter + 1 < 2 ^ 48) :
    tick s =
      { s with
        tb := wallTick { s.tb with runCounter := s.tb.runCounter + 1 }
        cam := { s.cam with syncClosed := s.cam.syncClosed && !Config.syncReopened (s.tb.runCounter + 1) }
        line := lineTick (s.tb.runCounter + 1) s.line } := by
  simp only [tick, now, State.modTb, State.modCam, State.modLine, runTick_of_lt h, wallTick_eq]

theorem step_idle {s : State} (h : s.pending = []) : step s = idleStep s := by
  rw [step, h]

/-- R22, entry 6: with compares reached, one of them is served, at most one choice being made. -/
theorem idleStep_serves {s : State} (h : dueCompares s ≠ []) :
    ∃ c ∈ dueCompares s, ∃ n : Nat, (n = s.choices ∨ n = s.choices + 1) ∧ idleStep s = exec c { s with choices := n } := by
  unfold idleStep
  split
  case h_1 quiet => exact absurd quiet h
  case h_2 c one => exact ⟨c, by simp [one], s.choices, .inl rfl, rfl⟩
  case h_3 c d rest several =>
    refine ⟨_, ?_, _, .inr rfl, rfl⟩
    have inside : Config.compareChoice s.choices % (rest.length + 2) < (c :: d :: rest).length :=
      Nat.mod_lt _ (Nat.succ_pos _)
    rw [several, List.getD_eq_getElem _ _ inside]
    exact List.getElem_mem inside

/-- Settles O2: a tick by the values left free, or a reached compare. -/
theorem idleStepTicksOrServesACompare : Obligations.IdleStepTicksOrServesACompare := by
  refine ⟨fun s queue quiet below => ?_, fun s queue due => ?_⟩
  · refine ⟨s.cam.syncClosed && !Config.syncReopened (s.tb.runCounter + 1), Config.byteArrived (s.tb.runCounter + 1),
      !s.line.awaitHigh && s.line.state != .dormant && Config.lrxFell (s.tb.runCounter + 1),
      !s.line.awaitHigh && Config.lrxReturned (s.tb.runCounter + 1), ?_, ?_, ?_, ?_⟩
    · simp +contextual
    · simp +contextual
    · simp +contextual
    · rw [step_idle queue, idleStep, quiet, tick_of_lt below, wallTick_eq, lineTick_eq]
  · rw [step_idle queue]
    exact idleStep_serves due

/-! ## Read-backs -/

theorem runFrameInHand_eq (s : State) :
    runFrameInHand s = s.cam.frame.bind fun f => if f.kind = .run then some f.number else none := by
  unfold runFrameInHand
  cases s.cam.frame <;> rfl

theorem testInFlight_eq (s : State) : testInFlight s = decide ((s.cam.frame.map fun f => f.kind) = some .test) := by
  unfold testInFlight
  cases s.cam.frame <;> simp

theorem getStatus_of_undefined_part {part : Byte} (h : 4 ≤ part.toNat) (s : State) :
    getStatus part s = (s, .badField, .field 1) := by
  have others (b : Byte) (below : b.toNat < 4) : part ≠ b := by
    rintro rfl
    omega
  rw [getStatus, if_neg (others 0 (by decide)), if_neg (others 1 (by decide)), if_neg (others 2 (by decide)),
    if_neg (others 3 (by decide))]

/-- Settles O7. -/
theorem identifyAndGetStatusReadBack : Obligations.IdentifyAndGetStatusReadBack := by
  have readBack (part : Byte) {s : State} (l : Listening s) {status : Status} {data : ReplyData}
      (a : ∀ l', getStatus part { s with line := l' } = ({ s with line := l' }, status, data)) :
      exec (.getStatus part) s = .next (endEvent s (replied (.getStatus part) status data (taken (.getStatus part) s))) := by
    obtain ⟨l', e, -⟩ := taken_frame (.getStatus part) s
    exact exec_answered rfl l (by rw [answerOf, e, a])
  refine fun s l => ⟨exec_answered rfl l rfl, readBack 0 l fun _ => rfl, readBack 1 l fun _ => rfl,
    readBack 2 l fun l' => ?_, readBack 3 l fun _ => rfl,
    fun part h => readBack part l fun _ => getStatus_of_undefined_part h _⟩
  rw [getStatus, if_neg (by decide), if_neg (by decide), if_pos rfl, cameraStatus, runFrameInHand_eq, testInFlight_eq]

/-! ## Terminations -/

/-- R40: the span ends at the minute, a whole day after W0 when W0 lies on it. -/
theorem clockSpan_spec (minute w0 : Nat) :
    1 ≤ clockSpan minute w0 ∧ clockSpan minute w0 ≤ 86400 ∧ (w0 + clockSpan minute w0) % 86400 = minute * 60 % 86400 := by
  unfold clockSpan timeOfDay
  dsimp only
  split <;> omega

theorem takeW0_pending {tb : Timebase} {e : Entry} (g : Segment) (h : e.w0 = none) (valid : tb.valid = true) :
    takeW0 tb g e = { e with w0 := some tb.seconds, span := spanOf g tb.seconds } :=
  if_pos ⟨valid, h⟩

theorem takeW0_taken {tb : Timebase} {e : Entry} (g : Segment) (h : e.w0 ≠ none ∨ tb.valid = false) : takeW0 tb g e = e :=
  if_neg fun ⟨valid, pending⟩ => h.elim (· pending) fun invalid => by simp [valid] at invalid

/-- R40, entry 23: taking W0 reaches W0 and the span alone. -/
theorem takeW0_keeps (tb : Timebase) (g : Segment) (e : Entry) :
    (takeW0 tb g e).runTime = e.runTime ∧ (takeW0 tb g e).exposureCount = e.exposureCount ∧
      (takeW0 tb g e).debounce = e.debounce := by
  unfold takeW0
  split <;> exact ⟨rfl, rfl, rfl⟩

section
variable {s : State} {g : Segment} {e : Entry}

theorem terminationTrue_frames (h : g.term = .frames) :
    terminationTrue s g e = true ↔ g.termArg.toNat ≤ e.exposureCount := by
  simp [terminationTrue, h]

theorem terminationTrue_duration (h : g.term = .duration) :
    terminationTrue s g e = true ↔ g.termArg.toNat * 1024 ≤ now s - e.runTime := by
  simp [terminationTrue, h]

theorem terminationTrue_clock {w0 span : Nat} (h : g.term = .clock) (hw : e.w0 = some w0) (hs : e.span = some span) :
    terminationTrue s g e = true ↔ (span : Int) ≤ (s.tb.seconds : Int) - (w0 : Int) := by
  simp [terminationTrue, h, hw, hs]

theorem terminationTrue_clock_pending (h : g.term = .clock) (hw : e.w0 = none) : terminationTrue s g e = false := by
  simp [terminationTrue, h, hw]

theorem terminationTrue_light (h : g.term = .lightBelow ∨ g.term = .lightAbove) :
    terminationTrue s g e = true ↔ e.debounce = 3 := by
  rcases h with h | h <;> simp [terminationTrue, h]

theorem terminationTrue_levelBelow (h : g.term = .levelBelow) :
    terminationTrue s g e = true ↔ s.pow.budgetLevel < g.termArg.toNat := by
  simp [terminationTrue, levelBelow, h]

theorem terminationTrue_forever (h : g.term = .forever) : terminationTrue s g e = false := by
  simp [terminationTrue, h]

/-- R40, entry 23: at the evaluation that takes W0 the crossing is still ahead. -/
theorem terminationTrue_takeW0 (h : g.term = .clock) (hw : e.w0 = none) (valid : s.tb.valid = true) :
    (takeW0 s.tb g e).w0 = some s.tb.seconds ∧
      (takeW0 s.tb g e).span = some (clockSpan g.termArg.toNat s.tb.seconds) ∧
      terminationTrue s g (takeW0 s.tb g e) = false := by
  obtain ⟨positive, -⟩ := clockSpan_spec g.termArg.toNat s.tb.seconds
  have span : spanOf g s.tb.seconds = some (clockSpan g.termArg.toNat s.tb.seconds) := if_pos h
  rw [takeW0_pending g hw valid, span]
  refine ⟨rfl, rfl, ?_⟩
  rw [← Bool.not_eq_true, terminationTrue_clock h rfl rfl]
  omega

end

/-- Settles O19. -/
theorem clockTerminationMeasuresTheCrossing : Obligations.ClockTerminationMeasuresTheCrossing := by
  refine ⟨clockSpan_spec, fun s g e clock => ⟨fun w0 span hw hs => terminationTrue_clock clock hw hs,
    fun pending => ⟨terminationTrue_clock_pending clock pending, terminationTrue_takeW0 clock pending⟩⟩,
    fun s g e => ⟨terminationTrue_frames, fun duration entered => ?_, terminationTrue_light, terminationTrue_levelBelow,
      terminationTrue_forever, ?_⟩⟩
  · rw [terminationTrue_duration duration, now]
    omega
  · obtain ⟨runTime, count, debounce⟩ := takeW0_keeps s.tb g e
    exact ⟨runTime, count, debounce, takeW0_taken g⟩

end Sys2Proof.Machine
end

section
/-! PROOFS. SET_CLOCK, START and the beginning of a run (R24, R27, R28, R115, R124). -/

namespace Sys2Proof.Machine

/-! ## The beginning of a run -/

/-- R124: a cause in ARMED, or in RUNNING with no STOP pending, starts hold entry. -/
theorem causeArises_enters {cause : HoldCause} {s : State}
    (h : s.seq.state = .armed ∨ (s.seq.state = .running ∧ s.seq.stopPending = false)) :
    causeArises cause s = holdEntry cause .current s := by
  rcases h with armed | ⟨run, go⟩
  · rw [causeArises, armed]
  · rw [causeArises, run, go]
    rfl

theorem powerCauseAtEntry_eq {s : State}
    (h : s.seq.state = .armed ∨ (s.seq.state = .running ∧ s.seq.stopPending = false)) :
    powerCauseAtEntry s = if s.pow.voltage = .critical then holdEntry .power .current s else s := by
  rw [powerCauseAtEntry, causeArises_enters h]

/-- R28, R54: RUNNING, with the seed metering requested. -/
def begun (s : State) : State :=
  meterRequest .frame .seed (segmentAt s 0).rounding
    { s with seq := { s.seq with state := .running, awaitingSeed := true, armedStart := none } }

theorem runBegin_of_go {s : State} (go : s.seq.stopPending = false) :
    runBegin s = if s.pow.voltage = .critical then holdEntry .power .current (begun s) else begun s :=
  powerCauseAtEntry_eq (s := begun s) (.inr ⟨rfl, go⟩)

theorem runBegin_of_not_critical {s : State} (h : s.pow.voltage ≠ .critical) : runBegin s = begun s :=
  if_neg h

/-! ## SET_CLOCK and the kept start time -/

theorem armedStartDue_iff (s : State) :
    armedStartDue s = true ↔ s.seq.state = .armed ∧ ∃ k, s.seq.armedStart = some k ∧ k ≤ s.tb.seconds := by
  simp only [armedStartDue, Bool.and_eq_true, decide_eq_true_eq]
  cases s.seq.armedStart <;> simp

theorem exec_armedStartReached (s : State) :
    exec .armedStartReached s = .next (if armedStartDue s = true then endEvent s (runBegin s) else s) := rfl

/-- R24: the clock with the two values taken. -/
def clockSet (seconds : Word) (ticks : Half) (s : State) : State :=
  { s with tb := { s.tb with seconds := seconds.toNat, ticks := min ticks.toNat 1023, valid := true } }

theorem setClock_eq (seconds : Word) (ticks : Half) (s : State) :
    setClock seconds ticks s =
      (if armedStartDue (clockSet seconds ticks s) = true then runBegin (clockSet seconds ticks s)
        else clockSet seconds ticks s,
        if ticks.toNat ≤ 1023 then .ok else .clamped, .clock s.tb.seconds s.tb.ticks s.tb.valid) := by
  have status : (if 1023 < ticks.toNat then Status.clamped else .ok) = if ticks.toNat ≤ 1023 then .ok else .clamped := by
    simp only [← Nat.not_lt, ite_not]
  rw [← status]
  rfl

/-- R24: SET_CLOCK executed at once, with what it leaves. -/
theorem exec_setClock {seconds : Word} {ticks : Half} {s u : State} (l : Listening s)
    (hu : (if armedStartDue (clockSet seconds ticks s) = true then
        runBegin (clockSet seconds ticks (taken (.setClock seconds ticks) s))
      else clockSet seconds ticks (taken (.setClock seconds ticks) s)) = u) :
    exec (.setClock seconds ticks) s = .next (endEvent s (replied (.setClock seconds ticks)
      (if ticks.toNat ≤ 1023 then .ok else .clamped) (.clock s.tb.seconds s.tb.ticks s.tb.valid) u)) := by
  obtain ⟨l', e, -⟩ := taken_frame (.setClock seconds ticks) s
  refine exec_answered rfl l ?_
  rw [answerOf, setClock_eq, ← hu, e]
  rfl

theorem clockSet_taken (seconds : Word) (ticks : Half) (r : Request) (s : State) :
    clockSet seconds ticks (taken r s) =
      { taken r s with tb := { s.tb with seconds := seconds.toNat, ticks := min ticks.toNat 1023, valid := true } } := by
  rw [clockSet, taken_tb]

/-- Settles O20. -/
theorem clockIsSetAndArmedStartIsReached : Obligations.ClockIsSetAndArmedStartIsReached := by
  refine ⟨fun seconds ticks s l => ⟨fun ahead => ?_, fun k armed start k_le => ?_⟩, fun k s armed start =>
    ⟨fun k_le => ⟨_, rfl, fun normal => ?_, fun critical go => ?_⟩, fun lt_k => ?_⟩⟩
  · refine exec_setClock l ((if_neg ?_).trans (clockSet_taken seconds ticks _ s))
    rw [armedStartDue_iff]
    rintro ⟨armed, k, start, k_le⟩
    rcases ahead with other | ⟨k', start', lt_k'⟩
    · exact other armed
    · cases start'.symm.trans start
      exact Nat.not_le.mpr lt_k' k_le
  · exact exec_setClock l ((if_pos ((armedStartDue_iff (clockSet seconds ticks s)).mpr ⟨armed, k, start, k_le⟩)).trans
      (congrArg runBegin (clockSet_taken seconds ticks _ s)))
  · rw [exec_armedStartReached, if_pos ((armedStartDue_iff _).mpr ⟨armed, k, start, k_le⟩),
      runBegin_of_not_critical normal]
    rfl
  · rw [exec_armedStartReached, if_pos ((armedStartDue_iff _).mpr ⟨armed, k, start, k_le⟩), runBegin_of_go go,
      if_pos critical]
    rfl
  · rw [exec_armedStartReached, if_neg]
    rw [armedStartDue_iff]
    rintro ⟨-, k', start', k'_le⟩
    cases start'.symm.trans start
    exact Nat.not_le.mpr lt_k k'_le

/-! ## START -/

section
variable {time : Option Word} {s : State}

theorem startRequest_of_run
    (q : s.seq.state = .armed ∨ s.seq.state = .running ∨ s.seq.state = .holding ∨ s.seq.state = .hold) :
    startRequest time s = (s, .badState, .empty) := by
  rcases q with q | q | q | q <;> rw [startRequest, q] <;> rfl

theorem startRequest_of_test (q : s.seq.state = .idle ∨ s.seq.state = .ended) (test : testInFlight s = true) :
    startRequest time s = (s, .busy, .empty) := by
  rcases q with q | q <;> rw [startRequest, q, test] <;> rfl

theorem startRequest_of_invalid {i : Nat} {reason : CheckReason} (q : s.seq.state = .idle ∨ s.seq.state = .ended)
    (test : testInFlight s = false) (bad : programCheck s.params.overhead (activeBank s.prog) = some (i, reason)) :
    startRequest time s = (s, .badState, .check i reason) := by
  rcases q with q | q <;> rw [startRequest, q, test, bad] <;> rfl

/-- R27: the examination's last step asks for a valid clock where a start time is given. -/
theorem startRequest_of_valid (q : s.seq.state = .idle ∨ s.seq.state = .ended) (test : testInFlight s = false)
    (good : programCheck s.params.overhead (activeBank s.prog) = none) :
    startRequest time s =
      if time.isSome = true ∧ s.tb.valid = false then (s, .badState, .empty)
      else (beginOrArm time (startAccepted s), .ok, .run (s.seq.runNumber % 255 + 1)) := by
  rcases q with q | q <;> rw [startRequest, q, test, good] <;> rfl

end

/-- R27: what an accepted START leaves, in a sequencer state and with a start time kept or none. -/
def started (state : SeqState) (seed : Bool) (start : Option Nat) (s : State) : State :=
  { s with
    seq :=
      { s.seq with
        state := state, stopPending := false, ending := false
        runNumber := s.seq.runNumber % 255 + 1, frameCounter := 0, walkCount := 0, current := none
        grid := none, lastDue := none, prepRegistered := false, stretchPending := false
        awaitingSeed := seed, armedStart := start }
    ramp := { s.ramp with seeded := false, f := 0, ePrev := none, sticky := 0 }
    cam := { s.cam with settings := none, faultCount := 0 } }

/-- R27, R28, R124: with no start time, or one not ahead of the clock, the run begins. -/
theorem beginOrArm_begins {time : Option Word} {s : State} (h : ∀ t, time = some t → t.toNat ≤ s.tb.seconds) :
    beginOrArm time (startAccepted s) =
      if s.pow.voltage = .critical then
        holdEntry .power .current (meterRequest .frame .seed (segmentAt s 0).rounding (started .running true none s))
      else meterRequest .frame .seed (segmentAt s 0).rounding (started .running true none s) := by
  have begins : beginOrArm time (startAccepted s) = runBegin (startAccepted s) := by
    cases time with
    | none => rfl
    | some t => exact if_pos (h t rfl)
  rw [begins, runBegin_of_go rfl]
  rfl

/-- R27, R124: with a start time ahead of the clock the sequencer is ARMED. -/
theorem beginOrArm_arms {t : Word} {s : State} (h : s.tb.seconds < t.toNat) :
    beginOrArm (some t) (startAccepted s) =
      if s.pow.voltage = .critical then holdEntry .power .current (started .armed false (some t.toNat) s)
      else started .armed false (some t.toNat) s := by
  have arms : beginOrArm (some t) (startAccepted s) = powerCauseAtEntry (started .armed false (some t.toNat) s) :=
    if_neg (Nat.not_le.mpr h)
  rw [arms, powerCauseAtEntry_eq (.inl rfl)]
  rfl

/-- Settles O21. -/
theorem startBeginsOrArmsARun : Obligations.StartBeginsOrArmsARun := by
  intro time s l
  obtain ⟨l', e, -⟩ := taken_frame (.start time) s
  rw [e]
  have answered {t : State} {status : Status} {data : ReplyData}
      (a : startRequest time { s with line := l' } = (t, status, data)) :
      exec (.start time) s = .next (endEvent s (replied (.start time) status data t)) :=
    exec_answered rfl l (by rw [e, answerOf, a])
  refine ⟨fun q => answered (startRequest_of_run q), fun q => ⟨fun test => answered (startRequest_of_test q test),
    fun test => ⟨fun i reason bad => answered (startRequest_of_invalid q test bad),
      fun good => ⟨fun given invalid => ?_, ?_, ?_⟩⟩⟩⟩
  all_goals have examined := startRequest_of_valid (time := time) (s := { s with line := l' }) q test good
  · exact answered (examined.trans (if_pos ⟨Option.isSome_iff_ne_none.mpr given, invalid⟩))
  · rintro _ rfl reached
    have notAhead : ∀ t, time = some t → t.toNat ≤ s.tb.seconds := by
      rintro t rfl
      rcases reached with absent | ⟨-, t', given, le⟩
      · cases absent
      · cases given
        exact le
    refine answered (examined.trans ((if_neg ?_).trans
      (by rw [beginOrArm_begins (s := { s with line := l' }) notAhead]; rfl)))
    rintro ⟨given, invalid⟩
    rcases reached with rfl | ⟨valid, -⟩
    · cases given
    · exact absurd (valid.symm.trans invalid) nofun
  · rintro t _ rfl valid ahead rfl
    refine answered (examined.trans ((if_neg ?_).trans
      (by rw [beginOrArm_arms (s := { s with line := l' }) ahead]; rfl)))
    rintro ⟨-, invalid⟩
    exact absurd (valid.symm.trans invalid) nofun

end Sys2Proof.Machine
end

section
/-! PROOFS. The end of a FRAME job (R48 to R51, R54 to R58, R69, R81). -/

namespace Sys2Proof.Machine

/-! ## The job -/

/-- R48, R65: a running FRAME job is the converter's job. -/
theorem runningClass_frame {m : Meter} {job : JobRequest} {start n : Nat} {cal : Int}
    (h : m.frame = .running job start n cal) : runningClass m = some .frame := by
  simp [runningClass, meterClasses, queueSlot, h, isRunning]

/-- R50: the FRAME job is over. -/
def frameJobOver (s : State) : State := { s with meter := { s.meter with frame := .empty } }

/-- R50, R51, entry 25: the codes of a FRAME job end it once its conversions are made. -/
theorem exec_frameJobEnd {codes : List Code} {job : JobRequest} {start n : Nat} {cal : Int} {xs : List Sample} {k : Nat}
    {s t : State} (run : s.meter.frame = .running job start n cal)
    (result : jobResult .frame n cal codes = some (.light xs k)) (made : start + 2 * k ≤ s.tb.runCounter)
    (delivered : deliverFrame job.owner (averageOf job.rounding xs) (allDark xs) (frameJobOver s) = t) :
    exec (.converterJobEnd codes) s = .next (endEvent s t) := by
  have slot : queueSlot s.meter .frame = .running job start n cal := run
  have ends : jobEnding codes s = some (.frame, job, cal, .light xs k) := by
    simp only [jobEnding, runningClass_frame run, slot, result]
    exact if_pos made
  simp only [exec, execConverterJobEnd, ends, ← delivered]
  rfl

/-! ## Who accepts the result -/

/-- R69: the filter after a fresh average. -/
theorem filterUpdate_eq (g : Segment) (avg : Int) (r : Ramp) :
    filterUpdate g avg r =
      { r with
        seeded := true
        f := if r.seeded = true then r.f + rnd g.rounding (16 * avg - r.f) (2 ^ g.smoothing) else 16 * avg } := by
  obtain ⟨seeded, _⟩ := r
  cases seeded <;> rfl

section
variable {f : Frame} {avg : Int} {dark : Bool} {s : State}

/-- R55, R69: a frame metering accepted in PREPARING. -/
theorem deliverFrame_run (frame : s.cam.frame = some f) (kind : f.kind = .run) (phase : s.cam.phase = .preparing)
    (isOpen : f.meteringOpen = true) :
    deliverFrame .frame avg dark s =
      { s with
        meter := { s.meter with lLast := some avg }
        cam :=
          { s.cam with
            frame := some { f with meteringOpen := false, metered := some { value := avg, dark := dark, late := false } } }
        ramp :=
          { s.ramp with
            seeded := true
            f :=
              if s.ramp.seeded = true then
                s.ramp.f + rnd (segmentAt s f.slot).rounding (16 * avg - s.ramp.f) (2 ^ (segmentAt s f.slot).smoothing)
              else 16 * avg } } := by
  have accepts : deliverFrame .frame avg dark s = acceptFrame f avg dark s := by
    rw [deliverFrame, frame]
    exact if_pos ⟨kind, phase, isOpen⟩
  rw [accepts, ← filterUpdate_eq]
  rfl

/-- R58, R81: a test metering accepted in PREPARING. -/
theorem deliverFrame_test (frame : s.cam.frame = some f) (kind : f.kind = .test) (phase : s.cam.phase = .preparing)
    (isOpen : f.meteringOpen = true) :
    deliverFrame .test avg dark s =
      { s with
        cam :=
          { s.cam with
            frame := some { f with meteringOpen := false, metered := some { value := avg, dark := dark, late := false } } }
        ramp := { s.ramp with test := some { f := some (16 * avg), ePrev := none } } } := by
  have accepts : deliverFrame .test avg dark s = acceptTest f avg dark s := by
    rw [deliverFrame, frame]
    exact if_pos ⟨kind, phase, isOpen⟩
  rw [accepts]
  rfl

/-- R57, R69: what an accepted seed sets. -/
def seeded (avg : Int) (s : State) : State :=
  { s with
    meter := { s.meter with lLast := some avg }
    ramp := { s.ramp with seeded := true, f := 16 * avg }
    seq := { s.seq with awaitingSeed := false } }

theorem deliverFrame_seed (awaited : s.seq.awaitingSeed = true) (q : s.seq.state = .running ∨ s.seq.state = .holding) :
    deliverFrame .seed avg dark s = if s.seq.state = .running then walkFrom 0 0 (seeded avg s) else seeded avg s :=
  if_pos ⟨awaited, q⟩

/-- R55, R58: no frame of the owner's kind awaits the result in PREPARING. -/
def NoneAwaits (owner : Owner) (s : State) : Prop :=
  s.cam.frame = none ∨ s.cam.phase ≠ .preparing ∨
    ∃ f : Frame, s.cam.frame = some f ∧
      (f.meteringOpen = false ∨ (f.kind = .run ∧ owner = .test) ∨ (f.kind = .test ∧ owner = .frame))

theorem NoneAwaits.discards {owner : Owner} (nobody : NoneAwaits owner s) (o : owner = .frame ∨ owner = .test) :
    deliverFrame owner avg dark s = s := by
  cases h : s.cam.frame with
  | none => rcases o with rfl | rfl <;> simp only [deliverFrame, h]
  | some f =>
    rcases nobody with e | other | ⟨f', e, other⟩
    · cases e.symm.trans h
    · rcases o with rfl | rfl <;> simp [deliverFrame, h, other]
    · cases e.symm.trans h
      rcases o with rfl | rfl <;> rcases other with shut | ⟨kind, owner⟩ | ⟨kind, owner⟩ <;> simp_all [deliverFrame]

theorem deliverFrame_seed_discards
    (h : s.seq.awaitingSeed = false ∨ (s.seq.state ≠ .running ∧ s.seq.state ≠ .holding)) :
    deliverFrame .seed avg dark s = s :=
  if_neg fun ⟨awaited, q⟩ => h.elim (fun off => absurd (awaited.symm.trans off) nofun)
    fun ⟨run, holding⟩ => q.elim run holding

end

/-- Settles O43: the job ends, and each owner's result goes where it is awaited, or nowhere. -/
theorem frameJobEndDeliversTheAverage : Obligations.FrameJobEndDeliversTheAverage := by
  intro codes job start n cal xs k s run result made
  refine ⟨fun f owner frame kind phase isOpen => ?_, fun owner q awaited => ?_, fun owner q awaited => ?_,
    fun f owner frame kind phase isOpen => ?_, fun unawaited => ?_⟩
  all_goals refine exec_frameJobEnd run result made ?_
  · rw [owner]
    exact deliverFrame_run (s := frameJobOver s) frame kind phase isOpen
  · rw [owner, deliverFrame_seed (s := frameJobOver s) awaited (.inl q)]
    exact if_pos q
  · rw [owner, deliverFrame_seed (s := frameJobOver s) awaited (.inr q)]
    have parked : (frameJobOver s).seq.state ≠ .running := fun run => absurd (q.symm.trans run) nofun
    exact if_neg parked
  · rw [owner]
    exact deliverFrame_test (s := frameJobOver s) frame kind phase isOpen
  · rcases unawaited with ⟨owner, nobody⟩ | ⟨owner, nobody⟩
    · exact NoneAwaits.discards (s := frameJobOver s) nobody owner
    · rw [owner]
      exact deliverFrame_seed_discards (s := frameJobOver s) nobody

end Sys2Proof.Machine
end

section
/-! PROOFS. What the owner of a parameter does in SET_PARAM (R46, R151, R154, R160, R197, R199). -/

namespace Sys2Proof.Machine

/-! ## The grid after a stretch change -/

section
variable {s : State}

theorem stretchChanged_elsewhere (h : s.seq.state ≠ .running ∨ s.seq.current = none) : stretchChanged s = s := by
  refine if_neg fun ⟨run, current⟩ => ?_
  rcases h with parked | nothing
  · exact parked run
  · rw [nothing] at current
    cases current

theorem stretchChanged_in_flight (run : s.seq.state = .running) (current : s.seq.current ≠ none)
    (flight : frameInFlight s = true) :
    stretchChanged s = { s with seq := { s.seq with stretchPending := true } } :=
  (if_pos ⟨run, Option.isSome_iff_ne_none.mpr current⟩).trans (if_pos flight)

theorem stretchChanged_at_once (run : s.seq.state = .running) (current : s.seq.current ≠ none)
    (free : frameInFlight s = false) : stretchChanged s = reanchor s :=
  (if_pos ⟨run, Option.isSome_iff_ne_none.mpr current⟩).trans (if_neg (by simp [free]))

/-- R46: the last due stays the anchor where the next frame lies a preparation lead ahead. -/
theorem reanchor_at_lastDue {g : Grid} {d : Nat} (grid : s.seq.grid = some g) (last : s.seq.lastDue = some d)
    (ahead : now s + preparationLead s ≤ d + g.interval * stretch s) :
    reanchor s =
      { s with
        seq :=
          { s.seq with
            grid := some { anchor := d, index := 1, interval := g.interval, factor := stretch s }
            stretchPending := false } } := by
  simp only [reanchor, grid, last, if_neg (Nat.not_lt.mpr ahead), State.modSeq]

/-- R46, entry 18: otherwise the grid is laid from the soonest due time, as at an entry. -/
theorem reanchor_at_soonest {g : Grid} (grid : s.seq.grid = some g)
    (near : s.seq.lastDue = none ∨ ∃ d, s.seq.lastDue = some d ∧ d + g.interval * stretch s < now s + preparationLead s) :
    reanchor s =
      { s with
        seq :=
          { s.seq with
            grid := some { anchor := now s + preparationLead s, index := 0, interval := g.interval, factor := stretch s }
            stretchPending := false } } := by
  rcases near with last | ⟨d, last, near⟩
  · simp only [reanchor, grid, last, State.modSeq]
  · simp only [reanchor, grid, last, if_pos near, State.modSeq]

end

/-! ## Storing a parameter -/

/-- Step 5 of R197 before its owner acts. -/
def withParam (q : ParamId) (v : Int) (s : State) : State := { s with params := storeParam s.params q v }

section
variable {q : ParamId} {v : Int} {level : Nat} {s : State}

theorem applyParameter_of_new (h : paramValue s.params s.line.mask q ≠ v) : applyParameter q v s = storeParameter q v s :=
  if_neg fun held => h held.1

theorem storeParameter_ownerless
    (h : q ∉ [ParamId.runCurrent, .dozeCurrent, .cameraCurrent, .heaterCurrent, .capacity, .logSize, .alertMask, .stretch0,
      .stretch1, .stretch2, .stretch3]) : storeParameter q v s = withParam q v s := by
  cases q
  case runCurrent | dozeCurrent | cameraCurrent | heaterCurrent | capacity | logSize | alertMask | stretch0 | stretch1
    | stretch2 | stretch3 => simp at h
  all_goals rfl

/-- R154: an accrual at the old draw comes before a new current. -/
theorem storeParameter_current (h : q ∈ [ParamId.runCurrent, .dozeCurrent, .cameraCurrent, .heaterCurrent]) :
    storeParameter q v s = formDraw (withParam q v (accrual s)) := by
  simp only [List.mem_cons, List.not_mem_nil, or_false] at h
  rcases h with rfl | rfl | rfl | rfl <;> rfl

/-- R160: the pairs of a stretch parameter and its budget level. -/
theorem stretchLevel_of_mem
    (h : (q, level) ∈ [(ParamId.stretch0, 0), (.stretch1, 1), (.stretch2, 2), (.stretch3, 3)]) :
    stretchLevel q = some level := by
  simp only [List.mem_cons, List.not_mem_nil, or_false, Prod.mk.injEq] at h
  rcases h with ⟨rfl, rfl⟩ | ⟨rfl, rfl⟩ | ⟨rfl, rfl⟩ | ⟨rfl, rfl⟩ <;> rfl

/-- R160: what a stretch parameter stored leaves of the other parameters, and the factor that its level then gives. -/
theorem storeParam_stretch (p : Params) (v : Int) (h : stretchLevel q = some level) :
    (storeParam p q v).wakeLead = p.wakeLead ∧ effectiveMeterLead (storeParam p q v) = effectiveMeterLead p ∧
      stretchOf (storeParam p q v) level = v.toNat := by
  cases q <;> cases h <;> exact ⟨rfl, rfl, rfl⟩

theorem storeParameter_stretch (h : stretchLevel q = some level) :
    storeParameter q v s =
      if level = s.pow.budgetLevel then keepOnTest (stretchChanged (withParam q v s)) else withParam q v s := by
  cases q <;> cases h <;> rfl

/-- R42, R46: the soonest due time after a stretch parameter has been stored (entry 17). -/
theorem soonest_withParam (h : stretchLevel q = some level) :
    now (withParam q v s) + preparationLead (withParam q v s) =
      s.tb.runCounter +
        (if s.cam.phase = .off ∨ s.cam.phase = .cooldown then s.params.wakeLead
        else max s.params.meterLead (s.params.settingLead + 64)) := by
  obtain ⟨wake, meter, -⟩ := storeParam_stretch s.params v h
  simp only [now, preparationLead, withParam, wake, meter]
  rfl

theorem stretch_withParam (h : stretchLevel q = some s.pow.budgetLevel) : stretch (withParam q v s) = v.toNat :=
  (storeParam_stretch s.params v h).2.2

end

/-- Settles O11. -/
theorem setParamActsOnItsOwner : Obligations.SetParamActsOnItsOwner := by
  refine ⟨fun q v s new => ?_, fun q s other => applyParameter_of_held fun held => other held.1⟩
  rw [applyParameter_of_new new]
  refine ⟨fun ownerless => ?_, fun draw => ⟨_, rfl, ?_⟩, ?_, ?_, fun level pair => ?_⟩
  · rw [storeParameter_ownerless ownerless, withParam]
  · rw [storeParameter_current draw]
    generalize accrual s = t
    rfl
  · rintro rfl -
    rfl
  · rintro rfl
    rfl
  have own := stretchLevel_of_mem pair
  rw [storeParameter_stretch own]
  refine ⟨fun other => if_neg other, ?_⟩
  rintro rfl
  rw [if_pos rfl]
  have factor := stretch_withParam (v := v) own
  refine ⟨fun elsewhere => ?_, fun run current flight => ?_, fun g soonest run current free grid hs =>
    ⟨fun d last ahead => ?_, fun near => ?_⟩⟩
  · rw [stretchChanged_elsewhere (s := withParam q v s) elsewhere]
    rfl
  · rw [stretchChanged_in_flight (s := withParam q v s) run current flight]
    rfl
  all_goals
    rw [← soonest_withParam (v := v) own] at hs
    rw [stretchChanged_at_once (s := withParam q v s) run current free]
  · rw [reanchor_at_lastDue (s := withParam q v s) grid last (by rwa [factor, ← hs]), factor]
    rfl
  · rw [reanchor_at_soonest (s := withParam q v s) grid (by rwa [factor, ← hs]), factor, ← hs]
    rfl

end Sys2Proof.Machine
end

section
/-! PROOFS. Preparation starts that miss or drop their frame (R38 to R40, R43, R45). -/

namespace Sys2Proof.Machine

/-! ## A preparation start that is due -/

/-- R43: the grid's next preparation start is registered in a run, no STOP pending, with a segment current. -/
structure Prepares (g : Grid) (c : Current) (s : State) : Prop where
  run : s.seq.state = .running
  go : s.seq.stopPending = false
  registered : s.seq.prepRegistered = true
  grid : s.seq.grid = some g
  current : s.seq.current = some c

/-- R42, R43: the next due time lies within the preparation lead (entry 17). -/
def PrepReached (g : Grid) (s : State) : Prop :=
  g.nextDue ≤ s.tb.runCounter + max s.params.meterLead (s.params.settingLead + 64) ∨
    (s.cam.phase = .off ∧ g.nextDue ≤ s.tb.runCounter + s.params.wakeLead)

/-- The state with the battery sample of a preparation start requested (R146). -/
def sampled (s : State) : State := meterRequest .battery .power .down s

section
variable {g : Grid} {c : Current} {s : State}

theorem Prepares.due (p : Prepares g c s) (reached : PrepReached g s) : preparationDue s = true := by
  simp only [preparationDue, p.grid, p.run, p.go, p.registered, decide_true, Bool.not_false, Bool.true_and,
    Bool.or_eq_true, Bool.and_eq_true, decide_eq_true_eq]
  exact reached.symm

theorem Prepares.exec_of (p : Prepares g c s) (reached : PrepReached g s) {t : State} (h : preparationStart s = t) :
    exec .preparationStart s = .next (endEvent s t) :=
  h ▸ congrArg Host.Outcome.next (if_pos (p.due reached))

/-- R45: with a run frame in flight. -/
theorem Prepares.overruns (p : Prepares g c s) (flight : frameInFlight s = true) :
    preparationStart s = missOverrun c.slot g (sampled s) := by
  have grid : (sampled s).seq.grid = some g := p.grid
  have current : (sampled s).seq.current = some c := p.current
  have flight' : frameInFlight (sampled s) = true := flight
  rw [preparationStart, ← sampled]
  simp only [grid, current, flight', if_true]

end

/-- R44, R45: the sequencer after a frame has been numbered and its successor registered. -/
def numbered (g : Grid) (q : Sequencer) : Sequencer :=
  { q with
    frameCounter := q.frameCounter % 4294967295 + 1, walkCount := 0, lastDue := some g.nextDue
    grid := some { g with index := g.index + 1 }, prepRegistered := true }

theorem nextIndex_numberFrame {g : Grid} {s : State} (grid : s.seq.grid = some g) :
    nextIndex (numberFrame g.nextDue s) = { s with seq := numbered g s.seq } := by
  simp only [nextIndex, numberFrame, State.modSeq, grid]
  rfl

theorem numberFrame_nextIndex {g : Grid} {s : State} (grid : s.seq.grid = some g) :
    numberFrame g.nextDue (nextIndex s) = { s with seq := numbered g s.seq } := by
  simp only [nextIndex, numberFrame, State.modSeq, grid]
  rfl

theorem numbered_of_registered (g : Grid) {q : Sequencer} (h : q.prepRegistered = true) :
    numbered g q =
      { q with
        frameCounter := q.frameCounter % 4294967295 + 1, walkCount := 0, lastDue := some g.nextDue
        grid := some { g with index := g.index + 1 } } := by
  rw [numbered, ← h]

/-! ## OVERRUN -/

/-- The frame of a grid's next due time, as numbered and handed in `s` (R44, R107). -/
def nextFrame (g : Grid) (c : Current) (s : State) : Frame :=
  newFrame .run (s.seq.frameCounter % 4294967295 + 1) g.nextDue c.slot g.iEff g.factor s.params

/-- R45: the frame's record is written, with nothing reached. -/
theorem missOverrun_spec {g : Grid} {c : Current} {s : State} (grid : s.seq.grid = some g) :
    ∃ r a, missOverrun c.slot g s =
        { s with
          seq := numbered g s.seq, log := storeRecord s.params.logSize r s.log, line := { s.line with alerts := a } } ∧
      r.outcome = .missed ∧ r.cause = .overrun ∧ r.value = 0 ∧ RecordsFrame s (nextFrame g c s) r := by
  have writes : missOverrun c.slot g s =
      logWrite (frameRecord s .missed .overrun (nextFrame g c s) 0) { s with seq := numbered g s.seq } := by
    simp only [missOverrun, nextIndex_numberFrame grid]
    rfl
  rw [writes, logWrite_eq]
  exact ⟨_, _, rfl, rfl, rfl, rfl, frameRecord_records s .missed .overrun (nextFrame g c s) 0⟩

/-! ## The evaluation -/

theorem endsWithoutFrame_iff (g : Segment) :
    endsWithoutFrame g = true ↔ g.term = .duration ∨ g.term = .clock ∨ g.term = .levelBelow := by
  cases h : g.term <;> simp [endsWithoutFrame, h]

/-- The current segment with its entry record as an evaluation leaves it (R40). -/
def noted (s : State) (c : Current) : Current := { slot := c.slot, entry := takeW0 s.tb (segmentAt s c.slot) c.entry }

/-- A due preparation start after its evaluation, with the current segment as it stands then. -/
def examined (c : Current) (s : State) : State := { sampled s with seq := { s.seq with current := some c } }

/-- R38 to R40: what an evaluation at a preparation start finds of the current segment: the kinds not evaluated there leave it. -/
def Stays (s : State) (c c' : Current) : Prop :=
  (c' = c ∧ endsWithoutFrame (segmentAt s c.slot) = false) ∨
    (c' = noted s c ∧ endsWithoutFrame (segmentAt s c.slot) = true ∧
      terminationTrue s (segmentAt s c.slot) c'.entry = false)

section
variable {g : Grid} {c : Current} {s : State}

theorem Prepares.notes (p : Prepares g c s) : noteEvaluation c.slot (sampled s) = examined (noted s c) s := by
  have current : (sampled s).seq.current = some c := p.current
  simp only [noteEvaluation, modEntry, State.modSeq, current]
  rfl

theorem Prepares.examined_self (p : Prepares g c s) : examined c s = sampled s := by
  rw [examined, ← p.current]
  rfl

/-- R44: with nothing in hand the segment is left, or the frame is numbered and handed. -/
theorem Prepares.free (p : Prepares g c s) (hand : s.cam.frame = none) {s2 : State}
    (hs2 : s2 = if endsWithoutFrame (segmentAt s c.slot) = true then noteEvaluation c.slot (sampled s) else sampled s) :
    preparationStart s =
      if (endsWithoutFrame (segmentAt s c.slot) && currentEnds s2) = true then walkNext c.slot s2
      else prepareFrame c.slot g.nextDue g.iEff g.factor (nextIndex s2) := by
  have grid : (sampled s).seq.grid = some g := p.grid
  have current : (sampled s).seq.current = some c := p.current
  have flight : frameInFlight (sampled s) = false := frameInFlight_of_none (s := sampled s) hand
  rw [preparationStart, ← sampled, hs2]
  simp only [grid, current, flight]
  rfl

/-- R38 to R40: a termination true at a preparation start drops the frame. -/
theorem Prepares.drops (p : Prepares g c s) (hand : s.cam.frame = none)
    (kind : endsWithoutFrame (segmentAt s c.slot) = true)
    (ends : terminationTrue s (segmentAt s c.slot) (noted s c).entry = true) :
    preparationStart s = walkNext c.slot (examined (noted s c) s) := by
  rw [p.free hand rfl, if_pos kind, p.notes, kind]
  exact if_pos ends

/-- The state that a preparation start hands its frame in, the frame numbered and the next one registered (R44). -/
def readied (g : Grid) (c : Current) (s : State) : State :=
  { examined c s with seq := { numbered g s.seq with current := some c } }

/-- R44: otherwise the frame is numbered and handed. -/
theorem Prepares.hands (p : Prepares g c s) (hand : s.cam.frame = none) {c' : Current} (stays : Stays s c c') :
    preparationStart s = takeMoments (handFrame (nextFrame g c s) (readied g c' s)) := by
  have prepares : preparationStart s = prepareFrame c.slot g.nextDue g.iEff g.factor (nextIndex (examined c' s)) := by
    rw [p.free hand rfl]
    rcases stays with ⟨rfl, kind⟩ | ⟨rfl, kind, stays⟩
    · rw [if_neg (c := endsWithoutFrame _ = true) (by simp [kind]), p.examined_self, kind]
      rfl
    · rw [if_pos kind, p.notes, kind]
      exact if_neg (by rw [Bool.true_and]; exact Bool.eq_false_iff.mp stays)
  have grid : (examined c' s).seq.grid = some g := p.grid
  simp only [prepares, prepareFrame, numberFrame_nextIndex grid]
  rfl

end

/-- Settles O40. -/
theorem preparationStartMissesOrDropsAFrame : Obligations.PreparationStartMissesOrDropsAFrame := by
  refine ⟨fun g c s run go registered grid current flight reached => ?_,
    fun g c e s run go registered grid current hand reached kind he ends => ?_⟩
  all_goals have p : Prepares g c s := ⟨run, go, registered, grid, current⟩
  · obtain ⟨r, a, missed, outcome, cause, value, runNumber, frame, segment, lAvg, eT, mode, gain, residual, due, flags⟩ :=
      missOverrun_spec (c := c) (s := sampled s) p.grid
    refine ⟨_, r, p.exec_of (.inl reached) ((p.overruns flight).trans missed), rfl, outcome, cause, runNumber, frame,
      segment, lAvg, eT, mode, value, gain, residual, due, flags.trans ?_, numbered_of_registered g registered, rfl, rfl, rfl,
      rfl, rfl, rfl, rfl⟩
    exact congrArg (· ||| _) (BitVec.zero_or)
  · subst he
    exact p.exec_of reached (p.drops hand ((endsWithoutFrame_iff _).mpr kind) ends)

end Sys2Proof.Machine
end

section
/-! PROOFS. A preparation start that hands its frame, with the moments already reached (R44, R58, R70, R93, R106 to R110). -/

namespace Sys2Proof.Machine

/-! ## The compares of a frame -/

theorem reached_congr {t : Option Nat} {s u : State} (clock : u.tb = s.tb) : reached t u = reached t s := by
  unfold reached now
  rw [clock]

/-- R107: a lead before a due time is reached where the due time lies within it (entry 37). -/
theorem reached_lead (due lead : Nat) (s : State) :
    reached (some (due - lead)) s = decide (due ≤ s.tb.runCounter + lead) := by
  change decide (due - lead ≤ s.tb.runCounter) = _
  rw [decide_eq_decide]
  omega

section
variable {at_ : Frame → Option Nat} {phases : List Phase} {f : Frame} {s : State}

theorem momentDue_of_frame (h : s.cam.frame = some f) :
    momentDue at_ phases s = (phases.contains s.cam.phase && reached (at_ f) s) := by
  rw [momentDue, h]

theorem momentDue_of_other_phase (h : s.cam.phase ∉ phases) : momentDue at_ phases s = false := by
  unfold momentDue
  split <;> simp [h]

theorem momentDue_of_none (h : s.cam.frame = none) : momentDue at_ phases s = false := by
  rw [momentDue, h]

theorem serveIf_due {due : State → Bool} {op : State → State} (h : due s = true) : serveIf due op s = op s := if_pos h

theorem serveIf_not_due {due : State → Bool} {op : State → State} (h : due s = false) : serveIf due op s = s :=
  if_neg (by simp [h])

end

/-- R107: the moments that follow the metering's, as far as they are reached. -/
def laterMoments (s : State) : State :=
  serveIf dueTimeDue dueTime (serveIf focusLeadDue focusLead (serveIf settingLeadDue settingLead s))

theorem takeMoments_eq (s : State) : takeMoments s = laterMoments (serveIf meterLeadDue meterLead s) := rfl

section
variable {f : Frame} {s : State}

/-- R108, R110: with the setting lead ahead, a frame that waits for it takes no other moment. -/
theorem laterMoments_of_waiting
    (h : s.cam.phase = .waking ∨
      (s.cam.phase = .preparing ∧ s.cam.frame = some f ∧ reached f.settingAt s = false)) : laterMoments s = s := by
  have setting : settingLeadDue s = false := by
    rcases h with waking | ⟨-, frame, ahead⟩
    · exact momentDue_of_other_phase (by simp [waking])
    · rw [settingLeadDue, momentDue_of_frame frame, ahead, Bool.and_false]
  have others : s.cam.phase ∉ [Phase.setting, .waitDue] := by rcases h with p | ⟨p, -⟩ <;> simp [p]
  have focus : focusLeadDue s = false := momentDue_of_other_phase others
  have due : dueTimeDue s = false := momentDue_of_other_phase others
  rw [laterMoments, serveIf_not_due setting, serveIf_not_due focus, serveIf_not_due due]

theorem laterMoments_of_setting (phase : s.cam.phase = .preparing) (frame : s.cam.frame = some f)
    (due : reached f.settingAt s = true) :
    laterMoments s = serveIf dueTimeDue dueTime (serveIf focusLeadDue focusLead (settingLead s)) := by
  have setting : settingLeadDue s = true := by
    rw [settingLeadDue, momentDue_of_frame frame, phase, due]
    rfl
  rw [laterMoments, serveIf_due setting]

theorem focusLead_eq (frame : s.cam.frame = some f) :
    focusLead s = { s with cam := { s.cam with focus := true, frame := some { f with focusAt := none } } } := by
  rw [focusLead, State.modCam, frame]
  rfl

/-- R110: FOCUS as a frame's focus lead gives it at the handing, its moment registered still or taken. -/
def focusTaken (f : Frame) (a : Option Nat) (s : State) : State :=
  { s with
    cam := { s.cam with focus := s.cam.focus || reached f.focusAt s, frame := some { f with focusAt := a } } }

/-- R110: after the computation a focus lead already reached asserts FOCUS; the due time is ahead. -/
theorem moments_after_computation (frame : s.cam.frame = some f)
    (phase : s.cam.phase = .setting ∨ s.cam.phase = .waitDue) (ahead : reached f.dueAt s = false) :
    ∃ a, serveIf dueTimeDue dueTime (serveIf focusLeadDue focusLead s) = focusTaken f a s := by
  have focus : focusLeadDue s = reached f.focusAt s := by
    have inside : [Phase.setting, .waitDue].contains s.cam.phase = true := by rcases phase with p | p <;> rw [p] <;> rfl
    rw [focusLeadDue, momentDue_of_frame frame, inside, Bool.true_and]
  have waits {t : State} {f' : Frame} (h : t.cam.frame = some f') (at_ : f'.dueAt = f.dueAt) (clock : t.tb = s.tb) :
      dueTimeDue t = false := by
    rw [dueTimeDue, momentDue_of_frame h, at_, reached_congr clock, ahead, Bool.and_false]
  cases h : reached f.focusAt s with
  | false =>
    refine ⟨f.focusAt, ?_⟩
    rw [serveIf_not_due (focus.trans h), serveIf_not_due (waits frame rfl rfl), focusTaken, h, Bool.or_false]
    change s = { s with cam := { s.cam with frame := some f } }
    rw [← frame]
  | true =>
    refine ⟨none, ?_⟩
    have waits' : dueTimeDue (focusLead s) = false := by
      rw [focusLead_eq frame]
      exact waits rfl rfl rfl
    rw [serveIf_due (focus.trans h), serveIf_not_due waits', focusLead_eq frame, focusTaken, h, Bool.or_true]

theorem moments_of_no_frame (h : s.cam.frame = none) :
    serveIf dueTimeDue dueTime (serveIf focusLeadDue focusLead s) = s := by
  have focus : focusLeadDue s = false := momentDue_of_none h
  have due : dueTimeDue s = false := momentDue_of_none h
  rw [serveIf_not_due focus, serveIf_not_due due]

end

/-! ## The handing -/

/-- R108: a run frame with its metering requested. -/
def opened (f : Frame) : Frame := { f with meterAt := none, meteringOpen := true }

/-- R107: a frame handed, or its metering requested, in phase `ph`: what it reaches beside what switching the camera moves. -/
def handed (ph : Phase) (f : Frame) (b : Bool) (p : Power) (m : Meter) (s : State) : State :=
  { s with
    seq := { s.seq with stretchPending := b }
    cam := { s.cam with phase := ph, frame := some f, power := s.cam.power || decide (s.cam.phase = .off) }
    pow := p, meter := m }

section
variable {f : Frame} {s : State}

theorem requestMetering_run (frame : s.cam.frame = some f) (kind : f.kind = .run) :
    requestMetering s =
      { s with
        cam := { s.cam with phase := .preparing, frame := some (opened f) }
        meter := (meterRequest .frame .frame (segmentAt s f.slot).rounding s).meter } := by
  obtain ⟨k, _⟩ := f
  obtain rfl : k = .run := kind
  rw [requestMetering, frame]
  rfl

/-- R107: from OFF the camera is switched on, in COOLDOWN it stays off. -/
theorem handFrame_waking (phase : s.cam.phase = .off ∨ s.cam.phase = .cooldown) (kind : f.kind = .run) :
    ∃ b p, handFrame f s = handed .waking f b p s.meter s := by
  rcases phase with off | cooldown
  · have on : (s.cam.power || decide (s.cam.phase = .off)) = true := by simp [off]
    obtain ⟨g, b, p, e, -, flight⟩ := setCamPower_moved true
      (s := s.modCam fun c => { c with phase := .waking, frame := some f }) (by simp)
    have grid : g = s.seq.grid := flight ((frameInFlight_iff _).mpr ⟨f, rfl, kind⟩)
    refine ⟨b, p, ?_⟩
    rw [handFrame, off, handed, on]
    dsimp only
    rw [e, grid]
    rfl
  · have on : (s.cam.power || decide (s.cam.phase = .off)) = s.cam.power := by simp [cooldown]
    refine ⟨s.seq.stretchPending, s.pow, ?_⟩
    rw [handFrame, cooldown, handed, on]
    rfl

/-- R107: from IDLE_ON the metering is requested at the handing. -/
theorem handFrame_idleOn (phase : s.cam.phase = .idleOn) (kind : f.kind = .run) :
    handFrame f s =
      handed .preparing (opened f) s.seq.stretchPending s.pow
        (meterRequest .frame .frame (segmentAt s f.slot).rounding s).meter s := by
  have on : (s.cam.power || decide (s.cam.phase = .off)) = s.cam.power := by simp [phase]
  rw [handFrame, phase, handed, on]
  dsimp only
  rw [requestMetering_run (f := f) rfl kind]
  rfl

/-- R107, R108: a frame handed with its meter lead ahead. -/
theorem takeMoments_waking (phase : s.cam.phase = .off ∨ s.cam.phase = .cooldown) (kind : f.kind = .run)
    (ahead : reached f.meterAt s = false) : ∃ b p, takeMoments (handFrame f s) = handed .waking f b p s.meter s := by
  obtain ⟨b, p, e⟩ := handFrame_waking phase kind
  refine ⟨b, p, ?_⟩
  have waits : meterLeadDue (handed .waking f b p s.meter s) = false := by
    rw [meterLeadDue, momentDue_of_frame (f := f) rfl]
    exact (Bool.and_eq_false_iff.mpr (.inr ahead))
  rw [takeMoments_eq, e, serveIf_not_due waits, laterMoments_of_waiting (f := f) (.inl rfl)]

/-- R107, R108: a frame handed with its metering requested in the same event. -/
theorem takeMoments_metered
    (phase : s.cam.phase = .idleOn ∨ ((s.cam.phase = .off ∨ s.cam.phase = .cooldown) ∧ reached f.meterAt s = true))
    (kind : f.kind = .run) :
    ∃ b p, takeMoments (handFrame f s) =
      laterMoments (handed .preparing (opened f) b p
        (meterRequest .frame .frame (segmentAt s f.slot).rounding s).meter s) := by
  rcases phase with idleOn | ⟨phase, due⟩
  · refine ⟨s.seq.stretchPending, s.pow, ?_⟩
    rw [takeMoments_eq, handFrame_idleOn idleOn kind, serveIf_not_due]
    exact momentDue_of_other_phase (by simp [handed])
  · obtain ⟨b, p, e⟩ := handFrame_waking phase kind
    refine ⟨b, p, ?_⟩
    have due : meterLeadDue (handed .waking f b p s.meter s) = true := by
      rw [meterLeadDue, momentDue_of_frame (f := f) rfl]
      exact due
    rw [takeMoments_eq, e, serveIf_due due, meterLead, requestMetering_run (f := f) rfl kind]
    rfl

end

/-! ## The metering deadline and the computation -/

/-- R55, R58: a frame whose metering deadline is taken with no metered value. -/
def late (f : Frame) (s : State) : Frame :=
  { f with metered := some (lateMetered s), meteringOpen := false, settingAt := none }

/-- R70, R80: what the computation of a run frame sets in the ramp engine and the alert set. -/
def computed (i : ComputeInput) (flags : Half) (s : State) : State :=
  { s with
    ramp :=
      { s.ramp with ePrev := some (computeExposure i).eT, sticky := s.ramp.sticky ||| (flags &&& 0x001F) }
    line := { s.line with alerts := if flags &&& 0x0003 = 0 then s.line.alerts else s.line.alerts ||| 0x0400 } }

theorem computeRun_eq (f : Frame) (m : Metered) (s : State) :
    computeRun f m s =
      leaveComputation { f with flags := computeFlags (runInput s f) m f.factor } (decide (s.params.linkPresent = 1))
        (computeExposure (runInput s f)) (computed (runInput s f) (computeFlags (runInput s f) m f.factor) s) := by
  have saturation : flagSatHi ||| flagSatLo = (0x0003 : Half) := rfl
  unfold computeRun
  dsimp only
  rw [saturation]
  split
  case isTrue h => rw [computed, if_pos h]; rfl
  case isFalse h => rw [computed, if_neg h]; rfl

/-- R89, R93, R110: how a frame leaves its computation. -/
theorem leaveComputation_eq (f : Frame) (link : Bool) (e : Exposure) (s : State) :
    leaveComputation f link e s =
      { s with
        cam :=
          { s.cam with
            phase := if link = true then .setting else .waitDue
            focus := s.cam.focus || decide (f.leads.setting ≤ f.leads.focus)
            frame := some { f with exposure := some (recordOf link e) }
            exchange := if link = true then .sending else s.cam.exchange
            assembling := if link = true then false else s.cam.assembling
            setting :=
              if link = true then some { mode := e.mode, shutter := e.sReq, gain := e.gReq } else s.cam.setting
            replyWindowAt := if link = true then some (now s + 192) else s.cam.replyWindowAt } } := by
  cases link <;> rfl

section
variable {f : Frame} {s : State}

/-- R108, R109: the deadline of a run frame with no metered value, its readiness check and its computation. -/
theorem settingLead_late (frame : s.cam.frame = some f) (kind : f.kind = .run) (unmetered : f.metered = none) :
    settingLead s =
      if (s.cam.power && s.cam.ready) = true then
        computeRun (late f s) (lateMetered s) { s with cam := { s.cam with frame := some (late f s) } }
      else readinessFailure (late f s) { s with cam := { s.cam with frame := some (late f s) } } := by
  rw [settingLead, frame]
  dsimp only
  rw [unmetered]
  by_cases on : (s.cam.power && s.cam.ready) = true
  · rw [if_pos on, if_pos on]
    split
    case h_1 => rfl
    case h_2 test => exact absurd (kind.symm.trans test) nofun
  · rw [if_neg on, if_neg on]
    rfl

/-- The frame after its late computation (R70, R93). -/
def computedFrame (f : Frame) (s : State) : Frame :=
  { late f s with
    flags := computeFlags (runInput s f) (lateMetered s) f.factor
    exposure := some (recordOf (decide (s.params.linkPresent = 1)) (computeExposure (runInput s f))) }

/-- The state after a run frame's late computation (R70, R89, R93, R110). -/
def computedLate (f : Frame) (s : State) : State :=
  { computed (runInput s f) (computeFlags (runInput s f) (lateMetered s) f.factor) s with
    cam :=
      { s.cam with
        phase := if s.params.linkPresent = 1 then .setting else .waitDue
        focus := s.cam.focus || decide (f.leads.setting ≤ f.leads.focus)
        frame := some (computedFrame f s)
        exchange := if s.params.linkPresent = 1 then .sending else s.cam.exchange
        assembling := if s.params.linkPresent = 1 then false else s.cam.assembling
        setting :=
          if s.params.linkPresent = 1 then
            some
              { mode := (computeExposure (runInput s f)).mode, shutter := (computeExposure (runInput s f)).sReq
                gain := (computeExposure (runInput s f)).gReq }
          else s.cam.setting
        replyWindowAt := if s.params.linkPresent = 1 then some (now s + 192) else s.cam.replyWindowAt } }

theorem settingLead_computes (frame : s.cam.frame = some f) (kind : f.kind = .run) (unmetered : f.metered = none)
    (on : (s.cam.power && s.cam.ready) = true) : settingLead s = computedLate f s := by
  rw [settingLead_late frame kind unmetered, if_pos on, computeRun_eq, leaveComputation_eq]
  simp only [decide_eq_true_eq]
  rfl

/-- R108, R110: a setting lead already reached takes the computation of a camera that is ready, and a focus lead with it. -/
theorem laterMoments_computes (frame : s.cam.frame = some f) (kind : f.kind = .run) (unmetered : f.metered = none)
    (phase : s.cam.phase = .preparing) (due : reached f.settingAt s = true) (ahead : reached f.dueAt s = false)
    (on : (s.cam.power && s.cam.ready) = true) :
    ∃ a, laterMoments s = focusTaken (computedFrame f s) a (computedLate f s) := by
  rw [laterMoments_of_setting phase frame due, settingLead_computes frame kind unmetered on]
  refine moments_after_computation (s := computedLate f s) rfl ?_ ahead
  by_cases link : s.params.linkPresent = 1
  · exact .inl (if_pos link)
  · exact .inr (if_neg link)

end

/-! ## The frame that misses its readiness check -/

/-- R44: what the numbering of frames holds. -/
def framesOf (s : State) : Nat × Option Nat := (s.seq.frameCounter, s.seq.lastDue)

/-- R117, R120: no frame in hand, and no camera kept on. -/
def Unmanned (s : State) : Prop := s.cam.frame = none ∧ s.cam.phase ≠ .idleOn

theorem framesOf_holdCheck (s : State) : framesOf (holdCheck s) = framesOf s := by
  unfold holdCheck
  split
  · split <;> rfl
  · rfl

theorem framesOf_holdEntry (cause : HoldCause) (point : HoldPoint) {s : State} (u : Unmanned s) :
    framesOf (holdEntry cause point s) = framesOf s := by
  rw [holdEntry_eq, framesOf_holdCheck, demandHold_of_nothing (s := heldAt cause point s) u.1 u.2]
  rfl

theorem framesOf_walk (fuel slot count : Nat) {s : State} (u : Unmanned s) :
    framesOf (walk fuel slot count s) = framesOf s := by
  induction fuel generalizing slot count s with
  | zero => exact framesOf_holdEntry .loop _ u
  | succ fuel ih =>
    by_cases guard : 23 ≤ s.seq.walkCount
    · rw [walk_guarded guard]
      exact framesOf_holdEntry .loop _ (s := counted s) u
    · rw [walk_of_lt (by omega)]
      generalize hv : (if gateTrue _ _ = true then _ else _ : State) = v
      have enters : framesOf v = framesOf s ∧ Unmanned v := by
        subst hv
        split <;> exact ⟨rfl, u⟩
      rw [← enters.1]
      split
      · rfl
      · unfold walkOn
        split
        · exact ih _ _ enters.2
        · exact ih _ _ enters.2
        · rfl

theorem framesOf_walkNext (slot : Nat) {s : State} (u : Unmanned s) : framesOf (walkNext slot s) = framesOf s := by
  unfold walkNext
  split
  · exact framesOf_walk 24 _ _ u
  · exact framesOf_walk 24 _ _ u
  · rfl

theorem framesOf_evaluateAtBoundary {s : State} (u : Unmanned s) : framesOf (evaluateAtBoundary s) = framesOf s := by
  unfold evaluateAtBoundary
  split
  · rfl
  · rename_i c _
    dsimp only
    split
    · exact framesOf_walkNext c.slot (s := noteEvaluation c.slot s) u
    · split
      · obtain ⟨_, _, e⟩ := reanchor_seq (noteEvaluation c.slot s)
        rw [e]
        rfl
      · rfl

/-- R37: a boundary numbers no frame. -/
theorem framesOf_frameBoundary (r : Report) {s : State} (u : Unmanned s) : framesOf (frameBoundary r s) = framesOf s := by
  have booked : framesOf (boundaryBook r s) = framesOf s ∧ Unmanned (boundaryBook r s) := by
    rw [boundaryBook_eq]
    exact ⟨rfl, u⟩
  rw [← booked.1]
  unfold frameBoundary
  generalize boundaryBook r s = b at *
  dsimp only
  split
  case h_1 =>
    split
    · rfl
    · split
      · exact framesOf_holdEntry .camera _ booked.2
      · split
        · exact framesOf_walk 24 _ _ booked.2
        · exact framesOf_evaluateAtBoundary booked.2
  case h_2 => split <;> rfl
  all_goals rfl

/-- R109: what a failed readiness check reports. -/
def wakeReport (f : Frame) (limit : Bool) : Report :=
  { outcome := .missed, cause := .cameraWake, frame := f, value := 0, faultLimit := limit, byStop := false }

/-- R109, R115: the camera after a failed readiness check, off, with nothing in hand and the fault counted. -/
def unwoken (c : Camera) : Camera :=
  { c with phase := unpoweredPhase c, power := false, frame := none, faultCount := min (c.faultCount + 1) 15 }

/-- R109, R113, R115: the boundary of a run frame that fails the readiness check. -/
theorem readinessFailure_eq {f : Frame} {s : State} (kind : f.kind = .run) :
    ∃ limit g b p, readinessFailure f s =
      frameBoundary (wakeReport f limit)
        { s with
          seq := { s.seq with grid := g, stretchPending := b }, cam := unwoken s.cam, pow := p
          line := { s.line with alerts := s.line.alerts ||| 0x0010 } } := by
  obtain ⟨g, b, p, off, -⟩ := setCamPower_moved false (s := s.modCam fun c => { c with phase := unpoweredPhase c })
    (unpoweredPhase_ne_idleOn s.cam)
  rw [readinessFailure, off, reportOutcome, kind]
  exact ⟨_, g, b, p, rfl⟩

/-- R109: what a run frame that fails the readiness check leaves: its record, the fault counted, nothing in hand. -/
theorem readinessFailure_spec {f : Frame} {s : State} (kind : f.kind = .run) (pending : s.prog.commitPending = false) :
    ∃ q cam p a r,
      readinessFailure f s =
        { s with
          seq := q, cam := cam, pow := p, log := storeRecord s.params.logSize r s.log
          line := { s.line with alerts := a } } ∧
      cam.frame = none ∧ cam.faultCount = min (s.cam.faultCount + 1) 15 ∧
      q.frameCounter = s.seq.frameCounter ∧ q.lastDue = s.seq.lastDue ∧
      r.outcome = .missed ∧ r.cause = .cameraWake ∧ r.value = 0 ∧ RecordsFrame s f r := by
  obtain ⟨limit, g, b, p, fails⟩ := readinessFailure_eq (s := s) kind
  generalize hu : ({ s with seq := _, cam := _, pow := _, line := _ } : State) = u at fails
  have unmanned : Unmanned u := hu ▸ ⟨rfl, unpoweredPhase_ne_idleOn s.cam⟩
  obtain ⟨r, _, booked, ⟨outcome, cause, value, records, -⟩, -⟩ := boundaryBook_spec (wakeReport f limit) u
  obtain ⟨q, cam, p', a, after, rest⟩ := frameBoundary_runsOn (wakeReport f limit) unmanned.1
  have frames := framesOf_frameBoundary (wakeReport f limit) unmanned
  rw [after] at frames
  rw [booked] at after rest
  have still : cam = u.cam := rest.resolve_right fun kept => unmanned.2 kept.1
  subst hu
  subst still
  refine ⟨q, unwoken s.cam, p', a, r, ?_, rfl, rfl, congrArg Prod.fst frames, congrArg Prod.snd frames, outcome, cause,
    value, records⟩
  rw [fails, after, resolved_of_not_pending pending]

/-- R58, R109: a setting lead already reached finds a camera that is not ready, and the frame is missed. -/
theorem laterMoments_fails {f : Frame} {s : State} (frame : s.cam.frame = some f) (kind : f.kind = .run)
    (unmetered : f.metered = none) (phase : s.cam.phase = .preparing) (due : reached f.settingAt s = true)
    (off : (s.cam.power && s.cam.ready) = false) (pending : s.prog.commitPending = false) :
    ∃ q cam p a r,
      laterMoments s =
        { s with
          seq := q, cam := cam, pow := p, log := storeRecord s.params.logSize r s.log
          line := { s.line with alerts := a } } ∧
      cam.frame = none ∧ cam.faultCount = min (s.cam.faultCount + 1) 15 ∧
      q.frameCounter = s.seq.frameCounter ∧ q.lastDue = s.seq.lastDue ∧
      r.outcome = .missed ∧ r.cause = .cameraWake ∧ r.value = 0 ∧ RecordsFrame s (late f s) r := by
  obtain ⟨q, cam, p, a, r, fails, hand, facts⟩ := readinessFailure_spec (f := late f s)
    (s := { s with cam := { s.cam with frame := some (late f s) } }) kind pending
  refine ⟨q, cam, p, a, r, ?_, hand, facts⟩
  rw [laterMoments_of_setting phase frame due, settingLead_late frame kind unmetered, if_neg (by simp [off]), fails]
  exact moments_of_no_frame hand

/-! ## The preparation start -/

/-- R49: BATTERY and FRAME wait in slots of their own, so their requests can come in either order. -/
theorem meterRequest_frame_battery (rounding : Rounding) (s : State) :
    meterRequest .frame .frame rounding (meterRequest .battery .power .down s) =
      meterRequest .battery .power .down (meterRequest .frame .frame rounding s) := rfl

/-- R107, R110: FOCUS at the handing, by the focus lead alone. -/
theorem focus_reached {g : Grid} {c : Current} {s t : State} (clock : t.tb = s.tb)
    (ahead : s.tb.runCounter < g.nextDue) (within : g.nextDue ≤ s.tb.runCounter + s.params.settingLead) :
    (decide ((nextFrame g c s).leads.setting ≤ (nextFrame g c s).leads.focus) ||
        reached (nextFrame g c s).focusAt t) =
      decide (g.nextDue ≤ s.tb.runCounter + s.params.focusLead) := by
  rw [reached_congr clock]
  change (decide (s.params.settingLead ≤ s.params.focusLead) ||
    reached (if 0 < s.params.focusLead ∧ s.params.focusLead < s.params.settingLead then
      some (g.nextDue - s.params.focusLead) else none) s) = _
  split
  case isTrue between =>
    rw [reached_lead, decide_eq_false (by omega), Bool.false_or]
  case isFalse outside =>
    rw [reached, Bool.or_false, decide_eq_decide]
    omega

theorem recordOf_link (n : Nat) (e : Exposure) :
    recordOf (decide (n = 1)) e =
      if n = 1 then e else { e with applied := some { value := e.ticks, gain := 0, residual := 0 } } := by
  by_cases link : n = 1 <;> simp [recordOf, link, finishWithoutLink]

section
variable {g : Grid} {c c' : Current} {s : State}

/-- R107: the phases that a frame is handed from. -/
def Hands (p : Phase) : Prop := p = .off ∨ p = .cooldown ∨ p = .idleOn

theorem Hands.unmanned {p : Phase} (h : Hands p) (other : p ≠ .idleOn) : p = .off ∨ p = .cooldown := by
  rcases h with h | h | h
  · exact .inl h
  · exact .inr h
  · exact absurd h other

theorem endsWithoutFrame_eq_false {seg : Segment}
    (h : seg.term = .frames ∨ seg.term = .lightBelow ∨ seg.term = .lightAbove ∨ seg.term = .forever) :
    endsWithoutFrame seg = false := by
  rcases h with h | h | h | h <;> rw [endsWithoutFrame, h]

theorem meterAt_reached (c' : Current) :
    reached (nextFrame g c s).meterAt (readied g c' s) =
      decide (g.nextDue ≤ s.tb.runCounter + max s.params.meterLead (s.params.settingLead + 64)) :=
  reached_lead g.nextDue (effectiveMeterLead s.params) (readied g c' s)

theorem Hands.meters (phase : Hands s.cam.phase) (c' : Current)
    (meters : s.cam.phase = .idleOn ∨
      g.nextDue ≤ s.tb.runCounter + max s.params.meterLead (s.params.settingLead + 64)) :
    s.cam.phase = .idleOn ∨
      ((s.cam.phase = .off ∨ s.cam.phase = .cooldown) ∧ reached (nextFrame g c s).meterAt (readied g c' s) = true) := by
  by_cases on : s.cam.phase = .idleOn
  · exact .inl on
  · exact .inr ⟨phase.unmanned on, (meterAt_reached c').trans (decide_eq_true (meters.resolve_left on))⟩

/-- R107, R108: the frame handed with its meter lead reached. -/
def lateHanded (g : Grid) (c c' : Current) (b : Bool) (p : Power) (s : State) : State :=
  handed .preparing (opened (nextFrame g c s)) b p
    (meterRequest .frame .frame (segmentAt s c.slot).rounding (sampled s)).meter (readied g c' s)

theorem lateHanded_setting_reached (c' : Current) (b : Bool) (p : Power)
    (due : g.nextDue ≤ s.tb.runCounter + s.params.settingLead) :
    reached (opened (nextFrame g c s)).settingAt (lateHanded g c c' b p s) = true :=
  (reached_lead g.nextDue s.params.settingLead (lateHanded g c c' b p s)).trans (decide_eq_true due)

/-- R107, R108: with the setting lead ahead the frame waits in WAKING, or for its metering in PREPARING. -/
theorem handed_in_time (phase : Hands s.cam.phase) (ahead : s.tb.runCounter + s.params.settingLead < g.nextDue)
    (c' : Current) :
    ∃ ph f b p m, takeMoments (handFrame (nextFrame g c s) (readied g c' s)) = handed ph f b p m (readied g c' s) ∧
      ((s.cam.phase ≠ .idleOn ∧ s.tb.runCounter + max s.params.meterLead (s.params.settingLead + 64) < g.nextDue ∧
          ph = .waking ∧ f = nextFrame g c s ∧ m = (sampled s).meter) ∨
        ((s.cam.phase = .idleOn ∨ g.nextDue ≤ s.tb.runCounter + max s.params.meterLead (s.params.settingLead + 64)) ∧
          ph = .preparing ∧ f = opened (nextFrame g c s) ∧
          m = (meterRequest .frame .frame (segmentAt s c.slot).rounding (sampled s)).meter)) := by
  by_cases meters : s.cam.phase = .idleOn ∨
      g.nextDue ≤ s.tb.runCounter + max s.params.meterLead (s.params.settingLead + 64)
  · obtain ⟨b, p, e⟩ := takeMoments_metered (f := nextFrame g c s) (s := readied g c' s)
      (phase.meters c' meters) rfl
    refine ⟨.preparing, opened (nextFrame g c s), b, p, _, e.trans ?_, .inr ⟨meters, rfl, rfl, rfl⟩⟩
    refine laterMoments_of_waiting (f := opened (nextFrame g c s)) (.inr ⟨rfl, rfl, ?_⟩)
    exact (reached_lead g.nextDue s.params.settingLead _).trans (decide_eq_false (by change ¬ _ ≤ s.tb.runCounter + _; omega))
  · obtain ⟨other, future⟩ := not_or.mp meters
    obtain ⟨b, p, e⟩ := takeMoments_waking (f := nextFrame g c s) (s := readied g c' s)
      (phase.unmanned other) rfl ((meterAt_reached c').trans (decide_eq_false future))
    exact ⟨.waking, nextFrame g c s, b, p, _, e, .inl ⟨other, by omega, rfl, rfl, rfl⟩⟩

/-- R107, R108: with the setting lead reached the frame's metering is requested and the later moments follow. -/
theorem handed_late (phase : Hands s.cam.phase) (due : g.nextDue ≤ s.tb.runCounter + s.params.settingLead)
    (c' : Current) :
    ∃ b p, takeMoments (handFrame (nextFrame g c s) (readied g c' s)) =
      laterMoments (lateHanded g c c' b p s) :=
  takeMoments_metered (f := nextFrame g c s) (s := readied g c' s) (phase.meters c' (.inr (by omega))) rfl

end

/-- Settles O41: the frame is numbered and handed, then the moments already reached are taken, by where the setting lead stands. -/
theorem preparationStartNumbersAndHandsAFrame : Obligations.PreparationStartNumbersAndHandsAFrame := by
  refine ⟨fun g c c' eff s run go registered grid current hand heff kept reach => ?_, meterRequest_frame_battery⟩
  subst heff
  have p : Prepares g c s := ⟨run, go, registered, grid, current⟩
  have stays : Stays s c c' := by
    rcases kept with ⟨rfl, kind⟩ | ⟨rfl, stays, kind⟩
    · exact .inl ⟨rfl, endsWithoutFrame_eq_false kind⟩
    · exact .inr ⟨rfl, (endsWithoutFrame_iff _).mpr kind, stays⟩
  have within : PrepReached g s := by
    rcases reach with ⟨off, due⟩ | ⟨-, due⟩
    · exact .inr ⟨off, due⟩
    · exact .inl due
  have phase : Hands s.cam.phase := by
    rcases reach with ⟨off, -⟩ | ⟨phase, -⟩
    · exact .inl off
    · exact phase
  have exec {t : State} := p.exec_of (t := t) within
  rw [p.hands hand stays] at exec
  refine ⟨fun ahead => ?_, fun future due ready on => ?_, fun due off pending => ?_⟩
  · obtain ⟨ph, f, b, pw, m, e, taken⟩ := handed_in_time (c := c) phase ahead c'
    refine ⟨_, f, exec e, rfl, ?_⟩
    rcases taken with ⟨other, future, rfl, rfl, rfl⟩ | ⟨meters, rfl, rfl, rfl⟩
    · exact ⟨rfl, rfl, rfl, rfl, rfl, rfl, rfl, rfl, rfl, rfl, rfl, run, rfl, rfl, rfl, rfl, rfl, rfl, rfl, rfl, rfl, rfl,
        rfl, rfl, rfl, fun _ _ => ⟨rfl, rfl, rfl⟩, fun meters => absurd (meters.resolve_left other) (by omega)⟩
    · exact ⟨rfl, rfl, rfl, rfl, rfl, rfl, rfl, rfl, rfl, rfl, rfl, run, rfl, rfl, rfl, rfl, rfl, rfl, rfl, rfl, rfl, rfl,
        rfl, rfl, rfl, fun other future => absurd (meters.resolve_left other) (by omega), fun _ => ⟨rfl, rfl, rfl⟩⟩
  · obtain ⟨b, pw, e⟩ := handed_late (c := c) phase due c'
    have power : (s.cam.power || decide (s.cam.phase = .off)) = true := by
      rcases on with off | power
      · simp [off]
      · simp [power]
    obtain ⟨a, moments⟩ := laterMoments_computes (f := opened (nextFrame g c s)) (s := lateHanded g c c' b pw s) rfl rfl rfl
      rfl (lateHanded_setting_reached c' b pw due) (decide_eq_false (by change ¬ _ ≤ s.tb.runCounter; omega))
      (Bool.and_eq_true_iff.mpr ⟨power, ready⟩)
    refine ⟨_, _, _, _, _, exec (e.trans moments), rfl, rfl, rfl, rfl, rfl, rfl, rfl, rfl, rfl, rfl, rfl, rfl, rfl, rfl,
      (congrArg some (recordOf_link _ _)), rfl, rfl, rfl, rfl, fun link => ⟨if_pos link, if_pos link, if_pos link⟩, power,
      ?_, run, rfl, rfl, rfl, rfl, rfl, rfl, rfl, rfl, rfl, rfl, rfl⟩
    exact (Bool.or_assoc _ _ _).trans (congrArg (s.cam.focus || ·) (focus_reached (c := c) rfl future due))
  · obtain ⟨b, pw, e⟩ := handed_late (c := c) phase due c'
    have unready : ((s.cam.power || decide (s.cam.phase = .off)) && s.cam.ready) = false := by
      rcases off with off | ⟨cooldown, off⟩
      · simp [off]
      · simp [cooldown, off]
    obtain ⟨q, cam, p', a, r, fails, hand', faults, counter, last, outcome, cause, value, -, frame, segment, lAvg, eT, -⟩ :=
      laterMoments_fails (f := opened (nextFrame g c s)) (s := lateHanded g c c' b pw s) rfl rfl rfl rfl
        (lateHanded_setting_reached c' b pw due) unready pending
    exact ⟨_, r, exec (e.trans fails), rfl, outcome, cause, frame, segment, lAvg, value, eT, counter.trans frame.symm, last,
      hand', faults, rfl, rfl, rfl, rfl⟩

end Sys2Proof.Machine
end

section
/-! PROOFS. Light samples, the converter's queue, and the end of a job (R48 to R54, R60, R61). -/

namespace Sys2Proof.Machine

/-! ## Light samples -/

/-- R53, R76: p is the position of the highest set bit of the value. -/
theorem log16_of_bounds {v p : Nat} (low : 2 ^ p ≤ v) (high : v < 2 ^ (p + 1)) :
    log16 v = ((16 * p + (v - 2 ^ p) * 16 / 2 ^ p : Nat) : Int) := by
  have positive : v ≠ 0 := (Nat.lt_of_lt_of_le (Nat.two_pow_pos p) low).ne'
  rw [log16, (Nat.log2_eq_iff positive).mpr ⟨low, high⟩]

/-- R53: m lies in 0..15. -/
theorem mantissa_lt {v p : Nat} (high : v < 2 ^ (p + 1)) : (v - 2 ^ p) * 16 / 2 ^ p < 16 := by
  rw [Nat.div_lt_iff_lt_mul (Nat.two_pow_pos p)]
  omega

/-- R53: p lies in 0..11. -/
theorem bitPosition_lt {c : Code} {p : Nat} (low : 2 ^ p ≤ c.toNat) : p < 12 :=
  (Nat.pow_lt_pow_iff_right (by omega)).mp (Nat.lt_of_le_of_lt low c.isLt)

/-- R53: the sample of a code that is not 0. -/
theorem sampleOf_of_ne_zero {c : Code} (h : c ≠ 0) (cal : Int) (hi : Bool) :
    sampleOf cal c hi = { value := log16 c.toNat - (if hi then 96 else 0) + cal, dark := false, hi := hi } := if_neg h

/-- R52: an LO code of 64 or more is the sample's own. -/
theorem lightSample_lo {lo : Code} (h : 64 ≤ lo.toNat) (cal : Int) (rest : List Code) :
    lightSample cal (lo :: rest) = some (sampleOf cal lo false, rest) := if_pos h

/-- R52: below 64 the HI range is converted too, and decides unless it is saturated. -/
theorem lightSample_hi {lo : Code} (h : lo.toNat < 64) (cal : Int) (hi : Code) (rest : List Code) :
    lightSample cal (lo :: hi :: rest) =
      some (if hi.toNat = 4095 then sampleOf cal lo false else sampleOf cal hi true, rest) :=
  if_neg (Nat.not_le.mpr h)

/-- Settles O42: the value of a code by its highest set bit, and the range by the LO code. -/
theorem lightSamplesFollowTheLogTable : Obligations.LightSamplesFollowTheLogTable := by
  refine ⟨fun cal c hi p low high => ?_, fun cal hi => ⟨rfl, rfl⟩, fun cal lo hi rest => ⟨fun h => ?_, fun h top => ?_,
    fun h unsaturated => ?_⟩⟩
  · have positive : c ≠ 0 := by
      rintro rfl
      exact absurd low (Nat.not_le.mpr (Nat.two_pow_pos p))
    have m := mantissa_lt high
    have p' := bitPosition_lt low
    rw [sampleOf_of_ne_zero positive, log16_of_bounds low high]
    refine ⟨rfl, rfl, ?_⟩
    generalize (c.toNat - 2 ^ p) * 16 / 2 ^ p = k at m
    dsimp only
    split <;> omega
  · exact lightSample_lo h cal _
  · rw [lightSample_hi h, if_pos top]
  · rw [lightSample_hi h, if_neg unsaturated]

/-! ## The queue slots -/

@[simp] theorem queueSlot_setQueueSlot_self (m : Meter) (c : MeterClass) (q : QueueSlot) :
    queueSlot (setQueueSlot m c q) c = q := by
  cases c <;> rfl

theorem queueSlot_setQueueSlot_of_ne {c c' : MeterClass} (h : c' ≠ c) (m : Meter) (q : QueueSlot) :
    queueSlot (setQueueSlot m c q) c' = queueSlot m c' := by
  revert h
  cases c <;> cases c' <;> simp [queueSlot, setQueueSlot]

@[simp] theorem setQueueSlot_lLast (m : Meter) (c : MeterClass) (q : QueueSlot) :
    (setQueueSlot m c q).lLast = m.lLast := by
  cases c <;> rfl

theorem mem_meterClasses (c : MeterClass) : c ∈ meterClasses := by
  cases c <;> decide

theorem runningClass_eq_none {m : Meter} : runningClass m = none ↔ ∀ c, isRunning (queueSlot m c) = false := by
  simp [runningClass, mem_meterClasses]

theorem runningClass_isSome {m : Meter} : (runningClass m).isSome = true ↔ ∃ c, isRunning (queueSlot m c) = true := by
  simp [runningClass, mem_meterClasses]

theorem waitingClasses_eq_nil {m : Meter} : waitingClasses m = [] ↔ ∀ c, isWaiting (queueSlot m c) = false := by
  simp [waitingClasses, mem_meterClasses]

theorem mem_waitingClasses {m : Meter} {c : MeterClass} : c ∈ waitingClasses m ↔ isWaiting (queueSlot m c) = true := by
  simp [waitingClasses, mem_meterClasses]

theorem isWaiting_iff {q : QueueSlot} : isWaiting q = true ↔ ∃ job, q = .waiting job := by
  cases q <;> simp [isWaiting]

/-- R49: a request that finds no job running in its slot waits there, in the place of any that waited. -/
theorem queueSlot_meterRequest_waiting {c : MeterClass} {s : State} (idle : isRunning (queueSlot s.meter c) = false)
    (o : Owner) (r : Rounding) :
    queueSlot (meterRequest c o r s).meter c = .waiting { owner := o, rounding := r } := by
  refine (queueSlot_setQueueSlot_self _ _ _).trans ?_
  cases slot : queueSlot s.meter c
  case running => simp [slot, isRunning] at idle
  all_goals rfl

/-- R49: a request merged into a running job takes its owner and its rounding mode, and lets it run. -/
theorem queueSlot_meterRequest_running {c : MeterClass} {s : State} {job : JobRequest} {start n : Nat} {cal : Int}
    (run : queueSlot s.meter c = .running job start n cal) (o : Owner) (r : Rounding) :
    queueSlot (meterRequest c o r s).meter c = .running { owner := o, rounding := r } start n cal := by
  refine (queueSlot_setQueueSlot_self _ _ _).trans ?_
  rw [run]

/-! ## The grant -/

/-- R50: the slots with a class's job started, which reads the sample count and the calibration. -/
def jobStarted (c : MeterClass) (job : JobRequest) (t : State) : Meter :=
  setQueueSlot t.meter c (.running job t.tb.runCounter t.params.sampleCount t.params.calibration)

theorem startWaiting_eq {c : MeterClass} {job : JobRequest} {t : State} (h : queueSlot t.meter c = .waiting job) :
    startWaiting c t = { t with meter := jobStarted c job t } := by
  rw [startWaiting, h]
  rfl

/-- R50: what has started, in the statements' words. -/
theorem jobStarted_spec (c : MeterClass) (job : JobRequest) (t : State) :
    (jobStarted c job t).lLast = t.meter.lLast ∧
      queueSlot (jobStarted c job t) c = .running job t.tb.runCounter t.params.sampleCount t.params.calibration ∧
      ∀ c', c' ≠ c → queueSlot (jobStarted c job t) c' = queueSlot t.meter c' :=
  ⟨setQueueSlot_lLast _ _ _, queueSlot_setQueueSlot_self _ _ _, fun _ h => queueSlot_setQueueSlot_of_ne h _ _⟩

section
variable {s t : State}

/-- R50: the class of highest priority is granted when a job ended in the event, and the one that waits alone. -/
theorem serveMeter_first {c : MeterClass} {rest : List MeterClass} {job : JobRequest}
    (idle : runningClass t.meter = none) (waits : waitingClasses t.meter = c :: rest)
    (h : queueSlot t.meter c = .waiting job) (decided : (runningClass s.meter).isSome = true ∨ rest = []) :
    serveMeter s t = { t with meter := jobStarted c job t } := by
  rw [← startWaiting_eq h, serveMeter, idle, waits]
  cases rest with
  | nil => rfl
  | cons d rest => exact if_pos (decided.resolve_right nofun)

/-- R49, R50, entry 42: some job that waits is granted an idle converter. -/
theorem serveMeter_grants (idle : runningClass t.meter = none) (waits : waitingClasses t.meter ≠ []) :
    ∃ c job n, queueSlot t.meter c = .waiting job ∧ (n = t.choices ∨ n = t.choices + 1) ∧
      serveMeter s t = { t with meter := jobStarted c job t, choices := n } := by
  have grants {c : MeterClass} (h : c ∈ waitingClasses t.meter) : ∃ job, queueSlot t.meter c = .waiting job :=
    isWaiting_iff.mp (mem_waitingClasses.mp h)
  cases w : waitingClasses t.meter with
  | nil => exact absurd w waits
  | cons c rest =>
    by_cases decided : (runningClass s.meter).isSome = true ∨ rest = []
    · obtain ⟨job, h⟩ := grants (c := c) (by simp [w])
      exact ⟨c, job, t.choices, h, .inl rfl, serveMeter_first idle w h decided⟩
    · obtain ⟨undecided, several⟩ := not_or.mp decided
      obtain ⟨d, rest, rfl⟩ := List.exists_cons_of_ne_nil several
      generalize hc : (c :: d :: rest).getD (Config.requestChoice t.choices % (rest.length + 2)) c = chosen
      have listed : chosen ∈ waitingClasses t.meter := by
        rw [w, ← hc, List.getD_eq_getElem _ _ (by simpa using Nat.mod_lt _ (Nat.succ_pos _))]
        exact List.getElem_mem _
      obtain ⟨job, h⟩ := grants listed
      refine ⟨chosen, job, t.choices + 1, h, .inr rfl, ?_⟩
      rw [serveMeter, idle, w]
      dsimp only
      rw [if_neg nofun, if_neg undecided, hc]
      exact startWaiting_eq (t := { t with choices := t.choices + 1 }) h

/-- R48: the classes that wait, when none of those of higher priority does. -/
theorem waitingClasses_of_first {m : Meter} {before after : List MeterClass} {c : MeterClass} {job : JobRequest}
    (order : meterClasses = before ++ c :: after) (none_before : ∀ c' ∈ before, isWaiting (queueSlot m c') = false)
    (h : queueSlot m c = .waiting job) :
    waitingClasses m = c :: after.filter fun c => isWaiting (queueSlot m c) := by
  have nothing : before.filter (fun c => isWaiting (queueSlot m c)) = [] := by simpa using none_before
  rw [waitingClasses, order, List.filter_append, nothing, List.filter_cons, h]
  rfl

/-- What follows the converter's grant at the end of an event leaves the queue. -/
theorem endEvent_meter (phase : t.cam.phase ≠ .idleOn) (holding : t.seq.state ≠ .holding)
    (heater : heaterConditions t = t.pow.eligible) : (endEvent s t).meter = (serveMeter s t).meter := by
  have kept : keepOnTest t = t := if_neg fun h => phase h.1
  have held : holdCheck t = t := if_neg fun h => holding h.1
  have heated : heaterForm t = t := if_pos heater
  rw [endEvent, kept, held, heated]
  obtain ⟨_, _, _, core⟩ := coreForm_frame s (serveMeter s t)
  obtain ⟨_, _, _, dropped⟩ := heaterDrop_frame (coreForm s (serveMeter s t))
  obtain ⟨_, timer⟩ := recoveryForm_frame (heaterDrop (coreForm s (serveMeter s t)))
  rw [timer, dropped, core]
  rfl

end

/-- Settles O31: a request's place in its slot, and whom an idle converter takes. -/
theorem meterQueueMergesAndGrants : Obligations.MeterQueueMergesAndGrants := by
  refine ⟨fun c owner rounding s => ⟨_, rfl, setQueueSlot_lLast _ _ _, fun c' other => queueSlot_setQueueSlot_of_ne other _ _,
    fun idle => queueSlot_meterRequest_waiting idle owner rounding,
    fun job start n cal run => queueSlot_meterRequest_running run owner rounding⟩,
    fun s t => ⟨fun served => ?_, ?_, fun idle waits => ?_, endEvent_meter⟩⟩
  · refine serveMeter_of_served (served.imp (fun run => ?_) waitingClasses_eq_nil.mpr)
    exact Option.isSome_iff_ne_none.mp (runningClass_isSome.mpr run)
  · intro before after c job order idle none_before waits decided
    refine ⟨jobStarted c job t, serveMeter_first (runningClass_eq_none.mpr idle)
      (waitingClasses_of_first order none_before waits) waits (decided.imp runningClass_isSome.mpr fun alone => ?_),
      jobStarted_spec c job t⟩
    simpa using alone
  · obtain ⟨c', waits⟩ := waits
    obtain ⟨c, job, n, h, choice, e⟩ := serveMeter_grants (s := s) (runningClass_eq_none.mpr idle)
      (fun nobody => by simp [waitingClasses_eq_nil.mp nobody c'] at waits)
    exact ⟨c, job, _, n, h, choice, e, jobStarted_spec c job t⟩

/-! ## The end of a job -/

/-- R50: the job of a class is over. -/
def jobOver (c : MeterClass) (s : State) : State := s.modMeter fun m => setQueueSlot m c .empty

/-- R48: the running job is the converter's, when none of higher priority runs. -/
theorem runningClass_of_first {m : Meter} {before after : List MeterClass} {c : MeterClass} {job : JobRequest}
    {start n : Nat} {cal : Int} (order : meterClasses = before ++ c :: after)
    (none_before : ∀ c' ∈ before, isRunning (queueSlot m c') = false) (h : queueSlot m c = .running job start n cal) :
    runningClass m = some c := by
  have nothing : before.find? (fun c => isRunning (queueSlot m c)) = none := by simpa using none_before
  rw [runningClass, order, List.find?_append, nothing, Option.none_or, List.find?_cons, h]
  rfl

/-- R50, R51, entry 25: the codes of the converter's job end it once its conversions are made. -/
theorem exec_jobEnd {codes : List Code} {c : MeterClass} {job : JobRequest} {start n : Nat} {cal : Int} {r : JobResult}
    {s : State} (converter : runningClass s.meter = some c) (slot : queueSlot s.meter c = .running job start n cal)
    (result : jobResult c n cal codes = some r) (made : start + jobTicks r ≤ s.tb.runCounter) :
    exec (.converterJobEnd codes) s = .next (endEvent s (deliver c job cal r (jobOver c s))) := by
  have ends : jobEnding codes s = some (c, job, cal, r) := by
    simp only [jobEnding, converter, slot, result]
    exact if_pos made
  simp only [exec, execConverterJobEnd, ends]
  rfl

/-! ## METER_NOW -/

/-- R60: METER_NOW has no answer in its own event. -/
theorem exec_meterNow {s : State} (l : Listening s) :
    exec .meterNow s = .next (endEvent s (meterRequest .host .host .nearest (taken .meterNow s))) := by
  rw [exec_of_request (r := .meterNow) rfl, receive_of_listening .meterNow l]
  rfl

/-- Settles O30: the request, and the end of its job with METER_NOW executing or gone. -/
theorem meterNowIsAnsweredAtItsJobsEnd : Obligations.MeterNowIsAnsweredAtItsJobsEnd := by
  refine ⟨fun s l => exec_meterNow l, fun codes job start n cal xs k s alone run result made => ?_⟩
  have converter : runningClass s.meter = some .host :=
    runningClass_of_first (before := [.frame, .battery, .temperature, .solar]) (after := []) rfl
      (fun c h => alone c (by rintro rfl; simp at h)) run
  rw [exec_jobEnd converter run result made]
  refine ⟨fun executing free => ?_, fun other => ?_⟩
  · exact congrArg (fun t => Host.Outcome.next (endEvent s t)) (if_pos ⟨executing, free⟩)
  · exact congrArg (fun t => Host.Outcome.next (endEvent s t)) (if_neg fun h => other h.1)

end Sys2Proof.Machine
end

section
/-! PROOFS. What an accrual and the forming of the levels change, whatever the phase (R117, R153, R158 to R160), and the power
monitor's compares (R146, R162, R164). -/

namespace Sys2Proof.Machine

/-! ## The levels only fall -/

theorem upLevel_mono {a b : Nat} (h : a ≤ b) : upLevel a ≤ upLevel b := by
  unfold upLevel
  repeat' split
  all_goals omega

/-- R158: a level is risen to at a higher account than it is fallen from. -/
theorem upLevel_le_downLevel (pm : Nat) : upLevel pm ≤ downLevel pm := by
  unfold upLevel downLevel
  repeat' split
  all_goals omega

/-- R158: with no rise threshold reached above it, a charge level formed again falls or stays. -/
theorem nextChargeLevel_falls {level pm : Nat} (h : upLevel pm ≤ level) :
    upLevel pm ≤ nextChargeLevel level pm ∧ nextChargeLevel level pm ≤ level := by
  have below := upLevel_le_downLevel pm
  unfold nextChargeLevel
  repeat' split
  all_goals omega

theorem budgetOf_mono (v : Voltage) {a b : Nat} (h : a ≤ b) : budgetOf v a ≤ budgetOf v b := by
  cases v <;> simp only [budgetOf] <;> omega

/-- R158, R159: the charge level waits for no rise, and the budget level follows it. -/
def Unrisen (s : State) : Prop :=
  upLevel (perMille s) ≤ s.pow.chargeLevel ∧ s.pow.budgetLevel = budgetOf s.pow.voltage s.pow.chargeLevel

/-- R158: levels that stand wait for no rise. -/
theorem Unrisen.of_levelLaw {s : State} (l : LevelLaw s) : Unrisen s := by
  obtain ⟨charge, budget⟩ := l
  refine ⟨?_, budget⟩
  have below := upLevel_le_downLevel (perMille s)
  unfold nextChargeLevel at charge
  split at charge
  · omega
  · split at charge <;> omega

theorem perMille_mono {s t : State} (account : t.pow.account ≤ s.pow.account) (params : t.params = s.params) :
    perMille t ≤ perMille s := by
  unfold perMille
  rw [params]
  exact Nat.div_le_div_right (Nat.mul_le_mul_right _ account)

/-! ## What forming the levels changes -/

/-- R46, R117, R153, R158 to R160: the power monitor after accruals and levels formed: the account never rises, an accrual is
taken now, and every field of the sample, the voltage state and the heater stands. -/
def Charged (s : State) (p : Power) : Prop :=
  ∃ a r l d cl bl,
    p = { s.pow with account := a, remainder := r, lastAccrual := l, draw := d, chargeLevel := cl, budgetLevel := bl } ∧
    a ≤ s.pow.account ∧ (l = s.pow.lastAccrual ∨ l = s.tb.runCounter) ∧
    (Unrisen s → Unrisen { s with pow := p } ∧ bl ≤ s.pow.budgetLevel)

/-- What accruals and levels formed change: in RUNNING the grid and the mark of a stretch change, a camera kept on may be
switched off, and the power monitor is charged. -/
def LevelsFormed (s t : State) : Prop :=
  ∃ g b c p, t = { s with seq := { s.seq with grid := g, stretchPending := b }, cam := c, pow := p } ∧
    (s.seq.state ≠ .running → g = s.seq.grid ∧ b = s.seq.stretchPending) ∧ AtRest s.cam c ∧ Charged s p

theorem Charged.refl (s : State) : Charged s s.pow :=
  ⟨_, _, _, _, _, _, rfl, le_rfl, .inl rfl, fun u => ⟨u, le_rfl⟩⟩

theorem LevelsFormed.refl (s : State) : LevelsFormed s s := ⟨_, _, _, _, rfl, fun _ => ⟨rfl, rfl⟩, .inl rfl, .refl s⟩

theorem LevelsFormed.trans {s t u : State} (h : LevelsFormed s t) (k : LevelsFormed t u) : LevelsFormed s u := by
  obtain ⟨g, b, c, p, rfl, parked, rest, a, r, l, d, cl, bl, rfl, account, last, falls⟩ := h
  obtain ⟨g', b', c', p', rfl, parked', rest', a', r', l', d', cl', bl', rfl, account', last', falls'⟩ := k
  refine ⟨g', b', c', _, rfl, fun q => ?_, rest.trans rest', a', r', l', d', cl', bl', rfl, account'.trans account, ?_,
    fun unrisen => ?_⟩
  · exact ⟨(parked' q).1.trans (parked q).1, (parked' q).2.trans (parked q).2⟩
  · rcases last' with rfl | rfl
    · exact last
    · exact .inr rfl
  · obtain ⟨unrisen, below⟩ := falls unrisen
    obtain ⟨unrisen', below'⟩ := falls' unrisen
    exact ⟨unrisen', below'.trans below⟩

theorem LevelsFormed.of_pow {s : State} {p : Power} (h : Charged s p) : LevelsFormed s { s with pow := p } :=
  ⟨_, _, _, _, rfl, fun _ => ⟨rfl, rfl⟩, .inl rfl, h⟩

/-- R153: an accrual lowers the account or leaves it, and is taken now. -/
theorem accrue_charged (s : State) : Charged s (accrue s).pow := by
  have account : (accrue s).pow.account ≤ s.pow.account := Nat.sub_le _ _
  refine ⟨_, _, _, _, _, _, rfl, account, .inr rfl, fun ⟨up, budget⟩ => ⟨⟨?_, budget⟩, le_rfl⟩⟩
  exact (upLevel_mono (perMille_mono (s := s) account rfl)).trans up

theorem levelled_charged (s : State) : Charged s (levelled s).pow := by
  refine ⟨_, _, _, _, _, _, rfl, le_rfl, .inl rfl, fun ⟨up, budget⟩ => ?_⟩
  obtain ⟨up', falls⟩ := nextChargeLevel_falls up
  exact ⟨⟨up', rfl⟩, (budgetOf_mono _ falls).trans budget.ge⟩

/-- R46: a stretch change reaches the grid and its mark, in RUNNING alone. -/
theorem stretchChanged_formed (s : State) : LevelsFormed s (stretchChanged s) := by
  obtain ⟨q, e⟩ := stretchChanged_frame s
  obtain ⟨g, b, cl, bl, e', parked, -⟩ := stretchChanged_moved s
  obtain rfl : q = { s.seq with grid := g, stretchPending := b } := congrArg State.seq (e.symm.trans e')
  exact ⟨g, b, _, _, e, parked, .inl rfl, .refl s⟩

/-- R117: a camera kept on whose conditions fail is switched off, with an accrual. -/
theorem keepOnOff_formed (s : State) : LevelsFormed s (keepOnOff s) := by
  unfold keepOnOff
  split
  case isTrue h =>
    exact ⟨_, _, _, _, rfl, fun _ => ⟨rfl, rfl⟩, .inr ⟨h.1, rfl⟩,
      accrue_charged (s.modCam fun c => { c with phase := .off, power := false })⟩
  case isFalse => exact .refl s

theorem formLevels_formed (s : State) : LevelsFormed s (formLevels s) := by
  have levels : LevelsFormed s (levelled s) := .of_pow (levelled_charged s)
  rw [formLevels_eq]
  refine LevelsFormed.trans ?_ (keepOnOff_formed _)
  split
  · exact levels
  · exact levels.trans (stretchChanged_formed _)

theorem settleLevels_formed (s : State) : LevelsFormed s (settleLevels s) :=
  (formLevels_formed s).trans (formLevels_formed _)

theorem accrual_formed (s : State) : LevelsFormed s (accrual s) :=
  (LevelsFormed.of_pow (accrue_charged s)).trans (settleLevels_formed (accrue s))

/-- R153: an accrual is taken now. -/
theorem accrual_lastAccrual (s : State) : (accrual s).pow.lastAccrual = s.tb.runCounter := by
  obtain ⟨_, _, _, _, e, -, -, _, _, l, _, _, _, rfl, -, last, -⟩ := settleLevels_formed (accrue s)
  rw [accrual, e]
  exact last.elim id id

theorem LevelsFormed.state {s t : State} (h : LevelsFormed s t) : t.seq.state = s.seq.state := by
  obtain ⟨_, _, _, _, rfl, -⟩ := h
  rfl

theorem LevelsFormed.hold {s t : State} (h : LevelsFormed s t) : t.seq.hold = s.seq.hold := by
  obtain ⟨_, _, _, _, rfl, -⟩ := h
  rfl

/-- R164: switching HEAT sets it and takes an accrual, or changes nothing. -/
theorem setHeat_formed (on : Bool) (s : State) : LevelsFormed { s with pow := { s.pow with heat := on } } (setHeat on s) := by
  unfold setHeat
  split
  case isTrue same =>
    rw [← same]
    exact .refl s
  case isFalse => exact accrual_formed _

theorem setCore_formed (c : CoreState) (s : State) : LevelsFormed { s with pow := { s.pow with core := c } } (setCore c s) := by
  unfold setCore
  split
  case isTrue same =>
    rw [← same]
    exact .refl s
  case isFalse => exact accrual_formed _

/-! ## The power monitor's compares -/

/-- R22: a compare that is due is taken. -/
theorem event_of_due {occasion : Bool} (h : occasion = true) (op : State → State) (s : State) :
    event occasion op s = endEvent s (op s) := if_pos h

theorem exec_periodicCompare {s : State} (due : s.pow.periodicAt ≤ s.tb.runCounter) :
    exec .periodicCompare s = .next (endEvent s (periodicCompare s)) :=
  congrArg Host.Outcome.next (event_of_due (decide_eq_true due) _ _)

theorem temperatureCompare_eq {at_ : Nat} {s : State} (h : s.pow.temperatureAt = some at_) :
    temperatureCompare s =
      meterRequest .temperature .power .down { s with pow := { s.pow with temperatureAt := some (at_ + 16384) } } := by
  rw [temperatureCompare, State.modPow, h]
  rfl

/-- R162, R164: the compares of an eligible heater. -/
theorem heaterCompare_due {at_ : Nat} {compare : Option Nat} {s : State} (eligible : s.pow.eligible = true)
    (h : compare = some at_) (due : at_ ≤ s.tb.runCounter) : (s.pow.eligible && reached compare s) = true := by
  rw [eligible, h]
  exact decide_eq_true due

/-- R164: HEAT is on in a period that has an on-slot. -/
theorem heaterPeriodStart_eq (s : State) :
    heaterPeriodStart s =
      setHeat (decide (onSlots s.pow.pendingDuty (s.tb.runCounter / 2048 % 8) ≠ 0))
        { s with
          pow :=
            { s.pow with
              duty := s.pow.pendingDuty
              heatPeriodAt := some (s.tb.runCounter / 2048 * 2048 + 2048)
              heatOffAt :=
                if 1 ≤ onSlots s.pow.pendingDuty (s.tb.runCounter / 2048 % 8) ∧
                  onSlots s.pow.pendingDuty (s.tb.runCounter / 2048 % 8) ≤ 31 then
                  some (s.tb.runCounter / 2048 * 2048 + onSlots s.pow.pendingDuty (s.tb.runCounter / 2048 % 8) * 64)
                else none } } := by
  have some_slot (n : Nat) : decide (1 ≤ n) = decide (n ≠ 0) := decide_eq_decide.mpr Nat.one_le_iff_ne_zero
  rw [← some_slot]
  rfl

/-- Settles O53: each compare's occasion and what it does, and what switching HEAT changes. -/
theorem powerComparesAreServed : Obligations.PowerComparesAreServed := by
  refine fun s => ⟨exec_periodicCompare, rfl, fun at_ eligible registered due => ?_, fun at_ eligible registered due => ?_,
    fun at_ registered due => ?_, fun on => ?_⟩
  · rw [← temperatureCompare_eq registered]
    exact congrArg Host.Outcome.next (event_of_due (heaterCompare_due eligible registered due) _ _)
  · rw [← heaterPeriodStart_eq]
    exact congrArg Host.Outcome.next (event_of_due (heaterCompare_due eligible registered due) _ _)
  · have occasion : heaterOffDue s = true := by
      rw [heaterOffDue, registered]
      exact decide_eq_true due
    exact congrArg Host.Outcome.next (event_of_due occasion _ _)
  · obtain ⟨_, _, _, _, e, -, -, _, _, _, _, _, _, rfl, account, -⟩ := setHeat_formed on s
    refine ⟨by rw [e], by rw [e], fun changes => ⟨?_, by rw [e]; exact account⟩⟩
    rw [setHeat, if_neg changes]
    exact accrual_lastAccrual _

end Sys2Proof.Machine
end

section
/-! PROOFS. The ends of the BATTERY, SOLAR and TEMPERATURE jobs, and the cause POWER they may raise (R62 to R64, R124, R133,
R142, R149, R156, R163). -/

namespace Sys2Proof.Machine

/-! ## Alerts that stay raised -/

/-- R199: the alert set of `t` holds at least that of `s`. -/
def AlertsKept (s t : State) : Prop := ∃ x, t.line.alerts = s.line.alerts ||| x

theorem AlertsKept.refl (s : State) : AlertsKept s s := ⟨0, by simp⟩

theorem AlertsKept.trans {s t u : State} (h : AlertsKept s t) (k : AlertsKept t u) : AlertsKept s u := by
  obtain ⟨x, e⟩ := h
  obtain ⟨y, e'⟩ := k
  exact ⟨x ||| y, by rw [e', e, BitVec.or_assoc]⟩

/-- R199: a raised alert stands as long as the set is kept. -/
theorem AlertsKept.raised {s t : State} (h : AlertsKept s t) {old a : Half} (raised : s.line.alerts = old ||| a)
    (some_bit : a ≠ 0) : t.line.alerts &&& a ≠ 0 := by
  obtain ⟨x, e⟩ := h
  have kept : (old ||| a ||| x) &&& a = a := by
    ext i
    simp only [BitVec.getElem_and, BitVec.getElem_or]
    cases a[i] <;> simp
  rwa [e, raised, kept]

/-- R18, R177: a boundary withdraws no alert. -/
theorem boundaryBook_alerts (r : Report) (s : State) : AlertsKept s (boundaryBook r s) := by
  rw [boundaryBook_eq]
  have logged (rec : LogRecord) : ∃ x, loggedAlerts rec s = s.line.alerts ||| x := ⟨_, BitVec.or_assoc _ _ _⟩
  obtain ⟨x, e⟩ := logged (bookedRecord r s)
  unfold AlertsKept bookedAlerts
  rw [e]
  split
  · exact ⟨_, BitVec.or_assoc _ _ _⟩
  · exact ⟨x, rfl⟩

/-! ## A run parked for a cause -/

/-- R126, R129: `t` comes of `s` with its run parked for a cause, in HOLDING or already in HOLD; the samples, the ramp engine,
the clocks and the parameters stand. -/
structure ParkedFor (cause : HoldCause) (s t : State) : Prop where
  state : t.seq.state = .holding ∨ t.seq.state = .hold
  ending : t.seq.ending = false
  hold : ∃ h, t.seq.hold = some h ∧ h.cause = cause
  voltage : t.pow.voltage = s.pow.voltage
  battery : t.pow.battery = s.pow.battery
  alerts : AlertsKept s t
  ramp : t.ramp = s.ramp
  tb : t.tb = s.tb
  params : t.params = s.params

theorem heldAt_parked (cause : HoldCause) (point : HoldPoint) (s : State) : ParkedFor cause s (heldAt cause point s) :=
  ⟨.inl rfl, rfl, ⟨_, rfl, rfl⟩, rfl, rfl, .refl s, rfl, rfl, rfl⟩

/-- R102: switching CAMPWR sets it and takes an accrual, or changes nothing. -/
theorem setCamPower_formed (on : Bool) (s : State) :
    LevelsFormed { s with cam := { s.cam with power := on } } (setCamPower on s) := by
  unfold setCamPower
  split
  case isTrue same =>
    rw [← same]
    exact .refl s
  case isFalse => exact accrual_formed _

section
variable {cause : HoldCause} {s t : State}

theorem ParkedFor.changeCamera (h : ParkedFor cause s t) (c : Camera) : ParkedFor cause s { t with cam := c } :=
  ⟨h.state, h.ending, h.hold, h.voltage, h.battery, h.alerts, h.ramp, h.tb, h.params⟩

theorem ParkedFor.levels (h : ParkedFor cause s t) {u : State} (f : LevelsFormed t u) : ParkedFor cause s u := by
  obtain ⟨_, _, _, _, rfl, -, -, _, _, _, _, _, _, rfl, -⟩ := f
  exact ⟨h.state, h.ending, h.hold, h.voltage, h.battery, h.alerts, h.ramp, h.tb, h.params⟩

theorem ParkedFor.setCamPower (h : ParkedFor cause s t) (on : Bool) : ParkedFor cause s (setCamPower on t) :=
  (h.changeCamera _).levels (setCamPower_formed on t)

/-- R18: a commit resolved at a boundary moves the resume point, and leaves the cause. -/
theorem resolvedHold_cause {h : HoldData} (e : t.seq.hold = some h) :
    ∃ h', resolvedHold t = some h' ∧ h'.cause = h.cause := by
  unfold resolvedHold
  split
  · refine ⟨resumeAtZero h, by rw [e]; rfl, ?_⟩
    unfold resumeAtZero
    split <;> rfl
  · exact ⟨h, e, rfl⟩

theorem ParkedFor.booked (h : ParkedFor cause s t) (r : Report) : ParkedFor cause s (boundaryBook r t) := by
  have alerts := h.alerts.trans (boundaryBook_alerts r t)
  obtain ⟨d, hold, from_⟩ := h.hold
  obtain ⟨d', hold', same⟩ := resolvedHold_cause hold
  rw [boundaryBook_eq] at alerts ⊢
  exact ⟨h.state, h.ending, ⟨d', hold', same.trans from_⟩, h.voltage, h.battery, alerts, h.ramp, h.tb, h.params⟩

theorem ParkedFor.cancelFrame (h : ParkedFor cause s t) (c : RecordCause) : ParkedFor cause s (cancelFrame c t) := by
  unfold Machine.cancelFrame
  split
  · split
    · exact (h.changeCamera _).setCamPower false
    · exact h
  · exact (((h.changeCamera _).setCamPower false).changeCamera _).booked _

/-- R127: the demand of hold entry leaves the run parked. -/
theorem ParkedFor.demandHold (h : ParkedFor cause s t) : ParkedFor cause s (demandHold t) := by
  unfold Machine.demandHold
  split
  · exact h.cancelFrame .hold
  · split
    case h_5 =>
      rw [cutFrame_eq]
      exact (h.changeCamera _).booked _
    case h_6 | h_7 | h_8 | h_9 => exact h
    all_goals exact h.cancelFrame .hold

theorem completeRecord_cause (t : State) (h : HoldData) : (completeRecord t h).cause = h.cause := by
  unfold completeRecord
  dsimp only
  repeat' split
  all_goals rfl

theorem ParkedFor.holdCheck (h : ParkedFor cause s t) : ParkedFor cause s (holdCheck t) := by
  unfold Machine.holdCheck
  split
  · rw [if_neg (by simp [h.ending])]
    obtain ⟨d, hold, from_⟩ := h.hold
    refine ⟨.inr rfl, h.ending, ⟨completeRecord t d, ?_, (completeRecord_cause t d).trans from_⟩, h.voltage, h.battery,
      h.alerts.trans ⟨_, rfl⟩, h.ramp, h.tb, h.params⟩
    exact congrArg (Option.map (completeRecord t)) hold
  · exact h

end

/-- R126: hold entry parks the run for its cause. -/
theorem holdEntry_parkedFor (cause : HoldCause) (point : HoldPoint) (s : State) :
    ParkedFor cause s (holdEntry cause point s) :=
  (heldAt_parked cause point s).demandHold.holdCheck

/-! ## The critical-recovery timer -/

theorem recoverySample_frame (v : Nat) (s : State) :
    ∃ r, recoverySample v s = { s with pow := { s.pow with recovery := r } } := by
  unfold recoverySample
  split
  · split
    · split
      · split
        · exact ⟨_, rfl⟩
        · exact ⟨_, rfl⟩
      · exact ⟨none, rfl⟩
    · exact ⟨_, rfl⟩
  · exact ⟨_, rfl⟩

/-- R142: outside HOLD a sample leaves the timer. -/
theorem recoverySample_elsewhere (v : Nat) {s : State} (h : s.seq.state ≠ .hold) : recoverySample v s = s := by
  unfold recoverySample
  split
  case h_1 q _ => exact absurd q h
  case h_2 => rfl

theorem recoverySample_of_no_hold (v : Nat) {s : State} (h : s.seq.hold = none) : recoverySample v s = s := by
  unfold recoverySample
  split
  case h_1 e => exact absurd (e.symm.trans h) nofun
  case h_2 => rfl

theorem ParkedFor.sampled {cause : HoldCause} {s t : State} (h : ParkedFor cause s t) (v : Nat) :
    ParkedFor cause s (recoverySample v t) := by
  obtain ⟨r, e⟩ := recoverySample_frame v t
  rw [e]
  exact ⟨h.state, h.ending, h.hold, h.voltage, h.battery, h.alerts, h.ramp, h.tb, h.params⟩

/-! ## The battery sample -/

/-- R146, R148, R150: a battery sample's value, and the voltage state it gives. -/
def measured (v : Nat) (s : State) : State :=
  { s with
    pow :=
      { s.pow with
        battery := some v, reEvaluate := false, voltage := (nextVoltage s.params s.pow v).1
        belowCritical := (nextVoltage s.params s.pow v).2 } }

section
variable {v : Nat} {s : State}

/-- R149: a sample that leaves the voltage state hands nothing on. -/
theorem batterySample_same (h : (measured v s).pow.voltage = s.pow.voltage) :
    batterySample v s = recoverySample v (measured v s) :=
  congrArg (recoverySample v) (if_pos h)

/-- R149: one that changes it raises its alert, reaches the sequencer and forms the levels. -/
theorem batterySample_change {old new : Voltage} (before : s.pow.voltage = old) (after : (measured v s).pow.voltage = new)
    (changes : new ≠ old) :
    batterySample v s =
      recoverySample v (settleLevels (voltageToSequencer old new (voltageAlerts old new (measured v s)))) := by
  subst before after
  exact congrArg (recoverySample v) (if_neg changes)

theorem batterySample_to_normal (before : s.pow.voltage = .low) (after : (measured v s).pow.voltage = .normal) :
    batterySample v s = recoverySample v (settleLevels (measured v s)) :=
  batterySample_change (old := .low) (new := .normal) before after nofun

theorem batterySample_to_low (before : s.pow.voltage = .normal) (after : (measured v s).pow.voltage = .low) :
    batterySample v s = recoverySample v (settleLevels (raiseAlert .batteryLow (measured v s))) :=
  batterySample_change (old := .normal) (new := .low) before after nofun

theorem batterySample_to_critical (before : s.pow.voltage = .low) (after : (measured v s).pow.voltage = .critical) :
    batterySample v s =
      recoverySample v (settleLevels (causeArises .power (raiseAlert .batteryCritical (measured v s)))) :=
  batterySample_change (old := .low) (new := .critical) before after nofun

theorem batterySample_leaves_critical (before : s.pow.voltage = .critical) (after : (measured v s).pow.voltage = .low) :
    batterySample v s = recoverySample v (settleLevels (discardLatchedPower (measured v s))) :=
  batterySample_change (old := .critical) (new := .low) before after nofun

/-- R124: a cause is dropped where no run stands, a STOP is pending, or the run ends. -/
theorem causeArises_dropped {cause : HoldCause}
    (h : s.seq.state = .idle ∨ s.seq.state = .ended ∨ (s.seq.state = .running ∧ s.seq.stopPending = true) ∨
      (s.seq.state = .holding ∧ s.seq.ending = true)) : causeArises cause s = s := by
  rcases h with q | q | ⟨q, mark⟩ | ⟨q, mark⟩ <;> rw [causeArises, q]
  · exact if_pos mark
  · exact if_pos mark

/-- R133: a cause is offered to the latch of a parked run. -/
theorem causeArises_offered {cause : HoldCause} (h : s.seq.state = .hold ∨ (s.seq.state = .holding ∧ s.seq.ending = false)) :
    causeArises cause s = offerLatch cause s := by
  rcases h with q | ⟨q, mark⟩ <;> rw [causeArises, q]
  exact if_neg (by simp [mark])

/-- R133: POWER in an empty latch. -/
theorem offerLatch_power {h : HoldData} (e : s.seq.hold = some h) :
    offerLatch .power s =
      { s with
        seq := { s.seq with hold := some (if h.latch = none then { h with latch := some .power } else h) } } := by
  rw [offerLatch, State.modSeq, e]
  cases empty : h.latch <;> simp [latchCause, empty]

theorem discardLatchedPower_of_none (h : s.seq.hold = none) : discardLatchedPower s = s := by
  rw [discardLatchedPower, State.modSeq, h, Option.map_none, ← h]

/-- R133: a latched POWER is discarded. -/
theorem discardLatchedPower_of_some {h : HoldData} (e : s.seq.hold = some h) :
    discardLatchedPower s =
      { s with
        seq := { s.seq with hold := some (if h.latch = some .power then { h with latch := none } else h) } } := by
  rw [discardLatchedPower, State.modSeq, e]
  rfl

/-- R142: outside HOLD the levels formed after a sample are the last of it. -/
theorem recoverySample_settled (h : s.seq.state ≠ .hold) : recoverySample v (settleLevels s) = settleLevels s :=
  recoverySample_elsewhere v ((settleLevels_formed s).state ▸ h)

end

/-! ## The jobs -/

section
variable {code : Code} {more : List Code} {job : JobRequest} {start n : Nat} {cal : Int} {s : State}

/-- R62, entry 25: the first code ends a BATTERY job. -/
theorem exec_batteryEnd (frame : isRunning s.meter.frame = false) (run : s.meter.battery = .running job start n cal)
    (made : start + 2 ≤ s.tb.runCounter) {t : State} (h : batterySample (code.toNat * 4) (jobOver .battery s) = t) :
    exec (.converterJobEnd (code :: more)) s = .next (endEvent s t) := by
  have converter : runningClass s.meter = some .battery :=
    runningClass_of_first (before := [.frame]) rfl (by simpa [queueSlot] using frame) run
  subst h
  exact exec_jobEnd (c := .battery) (job := job) (cal := cal) (r := .single code) converter run rfl made

/-- R64: a TEMPERATURE job. -/
theorem exec_temperatureEnd (frame : isRunning s.meter.frame = false) (battery : isRunning s.meter.battery = false)
    (run : s.meter.temperature = .running job start n cal) (made : start + 2 ≤ s.tb.runCounter) {t : State}
    (h : temperatureResult ((code.toNat : Int) - 800) (jobOver .temperature s) = t) :
    exec (.converterJobEnd (code :: more)) s = .next (endEvent s t) := by
  have converter : runningClass s.meter = some .temperature :=
    runningClass_of_first (before := [.frame, .battery]) rfl (by simpa [queueSlot] using ⟨frame, battery⟩) run
  subst h
  exact exec_jobEnd (c := .temperature) (job := job) (cal := cal) (r := .single code) converter run rfl made

/-- R63: a SOLAR job. -/
theorem exec_solarEnd (frame : isRunning s.meter.frame = false) (battery : isRunning s.meter.battery = false)
    (temperature : isRunning s.meter.temperature = false) (run : s.meter.solar = .running job start n cal)
    (made : start + 2 ≤ s.tb.runCounter) :
    exec (.converterJobEnd (code :: more)) s = .next (endEvent s (solarCredit (code.toNat / 2) (jobOver .solar s))) := by
  have converter : runningClass s.meter = some .solar :=
    runningClass_of_first (before := [.frame, .battery, .temperature]) rfl
      (by simpa [queueSlot] using ⟨frame, battery, temperature⟩) run
  exact exec_jobEnd (c := .solar) (job := job) (cal := cal) (r := .single code) converter run rfl made

end

/-- R163: the duty of a temperature, clamped. -/
theorem dutyOf_eq (p : Params) (t : Int) :
    dutyOf p t = (max 0 (min (p.dutyMax : Int) ((p.slope : Int) * (p.tOn - t) / 4))).toNat :=
  congrArg Int.toNat (clampInt_eq (Int.natCast_nonneg _) _)

/-- Settles O45: the battery sample by the voltage state it leaves and enters, and the two samples that hand nothing on. -/
theorem powerJobEndsDeliverTheirSamples : Obligations.PowerJobEndsDeliverTheirSamples := by
  refine ⟨fun code more job start n cal s frame made => ⟨fun v m p run hv hm hp => ?_,
    fun battery temperature run => exec_solarEnd frame battery temperature run made, fun battery run => ?_⟩,
    fun v s => recoverySample_elsewhere v⟩
  · subst hv hm hp
    have ends {t : State} := exec_batteryEnd (code := code) (more := more) frame run made (t := t)
    refine ⟨fun same => ends (batterySample_same same), fun low normal => ends (batterySample_to_normal low normal),
      fun normal low => ends (batterySample_to_low normal low), fun t low critical ht => ?_, fun critical low => ?_⟩
    · subst ht
      have arises := batterySample_to_critical (v := code.toNat * 4) (s := jobOver .battery s) low critical
      generalize ht : raiseAlert .batteryCritical _ = t at arises
      have state : t.seq = s.seq := ht ▸ rfl
      refine ⟨fun drops => ?_, fun enters => ?_, fun h hold parked => ?_, fun running go => ?_⟩
      · have outside : t.seq.state ≠ .hold := by rcases drops with q | q | ⟨q, -⟩ | ⟨q, -⟩ <;> simp [state, q]
        rw [causeArises_dropped (state ▸ drops), recoverySample_settled outside] at arises
        exact ends (arises.trans (ht ▸ rfl))
      · rw [causeArises_enters (state ▸ enters)] at arises
        exact ends (arises.trans (ht ▸ rfl))
      · rw [causeArises_offered (state ▸ parked), offerLatch_power (state ▸ hold)] at arises
        exact ends (arises.trans (ht ▸ rfl))
      · rw [causeArises_enters (state ▸ .inr ⟨running, go⟩)] at arises
        have parked := ((holdEntry_parkedFor .power .current t).levels (settleLevels_formed _)).sampled (code.toNat * 4)
        obtain ⟨h, hold, cause⟩ := parked.hold
        subst ht
        exact ⟨_, h, ends arises, parked.state, hold, cause, parked.voltage.trans critical, parked.battery,
          parked.alerts.raised rfl (by decide), parked.ramp, parked.tb, parked.params⟩
    · have leaves := batterySample_leaves_critical (v := code.toNat * 4) (s := jobOver .battery s) critical low
      generalize hu : measured (code.toNat * 4) (jobOver .battery s) = u at leaves
      have state : u.seq = s.seq := hu ▸ rfl
      refine ⟨fun empty => ?_, fun h hold => ?_⟩
      · rw [discardLatchedPower_of_none (state ▸ empty),
          recoverySample_of_no_hold _ ((settleLevels_formed u).hold.trans (state ▸ empty))] at leaves
        exact ends (leaves.trans (hu ▸ rfl))
      · rw [discardLatchedPower_of_some (state ▸ hold)] at leaves
        exact ends (leaves.trans (hu ▸ rfl))
  · refine exec_temperatureEnd frame battery run made ?_
    rw [← dutyOf_eq]
    rfl

end Sys2Proof.Machine
end

section
/-! PROOFS. The setting lead of a run frame and of a test shot: the readiness failure and the computation (R58, R70, R72, R80, R81,
R89, R93, R108, R109, R121, R122). -/

namespace Sys2Proof.Machine

/-! ## A boundary with nothing in hand -/

/-- What holds whatever the sequencer does and whatever alert it raises. -/
def SequencerBlind (I : State → Prop) : Prop :=
  (∀ s q, I s → I { s with seq := q }) ∧ ∀ s a, I s → I (raiseAlert a s)

section
variable {I : State → Prop} {s : State}

theorem SequencerBlind.holdEntry (b : SequencerBlind I) (cause : HoldCause) (point : HoldPoint) (u : Unmanned s) (i : I s) :
    I (holdEntry cause point s) := by
  rw [holdEntry_eq, demandHold_of_nothing (s := heldAt cause point s) u.1 u.2]
  have held : I (heldAt cause point s) := b.1 s _ i
  unfold holdCheck
  split
  · split
    · exact b.1 _ _ held
    · exact b.2 _ _ (b.1 _ _ held)
  · exact held

theorem SequencerBlind.walk (b : SequencerBlind I) (fuel slot count : Nat) (u : Unmanned s) (i : I s) :
    I (walk fuel slot count s) := by
  induction fuel generalizing slot count s with
  | zero => exact b.holdEntry .loop _ u i
  | succ fuel ih =>
    by_cases guard : 23 ≤ s.seq.walkCount
    · rw [walk_guarded guard]
      exact b.holdEntry .loop _ (s := counted s) u (b.1 s _ i)
    · rw [walk_of_lt (by omega)]
      generalize hv : (if gateTrue _ _ = true then _ else _ : State) = v
      have enters : I v ∧ Unmanned v := by
        subst hv
        split <;> exact ⟨b.1 s _ i, u⟩
      split
      · exact b.1 v _ enters.1
      · unfold walkOn
        split
        · exact ih _ _ enters.2 enters.1
        · exact ih _ _ enters.2 enters.1
        · exact b.2 _ _ (b.1 v _ enters.1)

theorem SequencerBlind.walkNext (b : SequencerBlind I) (slot : Nat) (u : Unmanned s) (i : I s) : I (walkNext slot s) := by
  unfold Machine.walkNext
  split
  · exact b.walk 24 _ _ u i
  · exact b.walk 24 _ _ u i
  · exact b.2 _ _ (b.1 s _ i)

theorem SequencerBlind.evaluate (b : SequencerBlind I) (u : Unmanned s) (i : I s) : I (evaluateAtBoundary s) := by
  unfold evaluateAtBoundary
  split
  · exact i
  · rename_i c _
    have noted : I (noteEvaluation c.slot s) := b.1 s _ i
    dsimp only
    split
    · exact b.walkNext c.slot (s := noteEvaluation c.slot s) u noted
    · split
      · obtain ⟨_, _, e⟩ := reanchor_seq (noteEvaluation c.slot s)
        rw [e]
        exact b.1 _ _ noted
      · exact noted

/-- R37: with nothing in hand, what follows a boundary's record is the sequencer's alone. -/
theorem SequencerBlind.frameBoundary (b : SequencerBlind I) (r : Report) (u : Unmanned s) (i : I (boundaryBook r s)) :
    I (frameBoundary r s) := by
  have u' : Unmanned (boundaryBook r s) := by
    rw [boundaryBook_eq]
    exact u
  unfold Machine.frameBoundary
  generalize boundaryBook r s = v at *
  dsimp only
  split
  case h_1 =>
    split
    · exact b.1 v _ i
    · split
      · exact b.holdEntry .camera _ u' i
      · split
        · exact b.walk 24 _ _ u' i
        · exact b.evaluate u' i
  case h_2 =>
    split
    · exact b.1 v _ i
    · exact i
  all_goals exact i

end

/-! ## The readiness failure -/

/-- R109: a run frame that fails the readiness check is MISSED: its record, one fault with its alert, and the camera off. -/
theorem readinessFailure_missed {f : Frame} {s : State} (kind : f.kind = .run) (pending : s.prog.commitPending = false) :
    ∃ q cam p a r,
      readinessFailure f s =
        { s with
          seq := q, cam := cam, pow := p, log := storeRecord s.params.logSize r s.log
          line := { s.line with alerts := a } } ∧
      (cam.frame = none ∧ cam.power = false ∧ cam.faultCount = min (s.cam.faultCount + 1) 15) ∧ a &&& 0x0010 ≠ 0 ∧
      r.outcome = .missed ∧ r.cause = .cameraWake ∧ r.value = 0 ∧ RecordsFrame s f r ∧ r.level = p.budgetLevel := by
  obtain ⟨limit, g, b, p, fails⟩ := readinessFailure_eq (s := s) kind
  generalize hu : ({ s with seq := _, cam := _, pow := _, line := _ } : State) = u at fails
  have unmanned : Unmanned u := hu ▸ ⟨rfl, unpoweredPhase_ne_idleOn s.cam⟩
  have blind : SequencerBlind fun t => t.pow = u.pow ∧ AlertsKept u t :=
    ⟨fun _ _ i => i, fun _ _ ⟨pow, kept⟩ => ⟨pow, kept.trans ⟨_, rfl⟩⟩⟩
  obtain ⟨pow, kept⟩ := blind.frameBoundary (wakeReport f limit) unmanned
    ⟨by rw [boundaryBook_eq], boundaryBook_alerts _ _⟩
  obtain ⟨r, _, booked, ⟨outcome, cause, value, records, level⟩, -⟩ := boundaryBook_spec (wakeReport f limit) u
  obtain ⟨q, cam, p', a, after, rest⟩ := frameBoundary_runsOn (wakeReport f limit) unmanned.1
  rw [after] at pow kept
  rw [booked] at after rest
  have still : cam = u.cam := rest.resolve_right fun kept => unmanned.2 kept.1
  subst hu still
  refine ⟨q, unwoken s.cam, p', a, r, ?_, ⟨rfl, rfl, rfl⟩, kept.raised rfl (by decide), outcome, cause, value, records, ?_⟩
  · rw [fails, after, resolved_of_not_pending pending]
  · exact level.trans (congrArg Power.budgetLevel pow).symm

/-- R81, R109, R122: a test shot that fails it: its record as MISSED and TEST_DONE, and no fault. -/
theorem readinessFailure_test {f : Frame} {s : State} (kind : f.kind = .test) (parked : s.seq.state ≠ .running) :
    ∃ p, readinessFailure f s =
      { s with
        cam :=
          { s.cam with
            phase := unpoweredPhase s.cam, power := false, frame := none, testRecord := testRecordOf .missed f }
        pow := p, ramp := { s.ramp with test := none }
        line := { s.line with alerts := s.line.alerts ||| 0x0800 } } := by
  obtain ⟨p, off⟩ := setCamPower_parked false (s := s.modCam fun c => { c with phase := unpoweredPhase c })
    (unpoweredPhase_ne_idleOn s.cam) parked
  refine ⟨p, ?_⟩
  rw [readinessFailure, off, reportOutcome, kind]
  rfl

/-! ## The computation -/

/-- R89, R93, R110: how a frame leaves its computation: with the exchange open, or with its record finished where the link is
absent. -/
theorem leaveComputation_spec (f : Frame) (n : Nat) (e : Exposure) (s : State) :
    ∃ c x, leaveComputation f (decide (n = 1)) e s = { s with cam := c } ∧
      c.frame = some { f with exposure := x } ∧
      c.focus = (s.cam.focus || decide (f.leads.setting ≤ f.leads.focus)) ∧
      (n = 1 →
        c.phase = .setting ∧ c.exchange = .sending ∧ x = some e ∧
        c.setting = some { mode := e.mode, shutter := e.sReq, gain := e.gReq } ∧
        c.replyWindowAt = some (s.tb.runCounter + 192)) ∧
      (n ≠ 1 →
        c.phase = .waitDue ∧ c.exchange = s.cam.exchange ∧
        x = some { e with applied := some { value := e.ticks, gain := 0, residual := 0 } }) ∧
      c.power = s.cam.power ∧ c.testRecord = s.cam.testRecord ∧ c.faultCount = s.cam.faultCount := by
  by_cases link : n = 1
  · rw [decide_eq_true link]
    exact ⟨_, _, rfl, rfl, rfl, fun _ => ⟨rfl, rfl, rfl, rfl, rfl⟩, fun other => absurd link other, rfl, rfl, rfl⟩
  · rw [decide_eq_false link]
    exact ⟨_, _, rfl, rfl, rfl, fun same => absurd same link, fun _ => ⟨rfl, rfl, rfl⟩, rfl, rfl, rfl⟩

/-! ## The setting lead -/

/-- R108: a frame whose metering deadline has been taken with a metered value. -/
def deadlined (f : Frame) (m : Metered) : Frame := { f with metered := some m, meteringOpen := false, settingAt := none }

/-- R108: the state with that frame in hand. -/
def withDeadline (f : Frame) (m : Metered) (s : State) : State :=
  { s with cam := { s.cam with frame := some (deadlined f m) } }

section
variable {f : Frame} {m : Metered} {s : State}

/-- R55, R58: the metered value at the deadline: the frame's own, or a late one. -/
def MeteredBy (f : Frame) (m : Metered) (s : State) : Prop :=
  f.metered = some m ∨
    (f.metered = none ∧ m = { value := s.meter.lLast.getD (-104 + s.params.calibration), dark := false, late := true })

theorem MeteredBy.getD (h : MeteredBy f m s) : f.metered.getD (lateMetered s) = m := by
  rcases h with h | ⟨h, rfl⟩ <;> rw [h] <;> rfl

theorem exec_settingLead {at_ : Nat} (frame : s.cam.frame = some f) (phase : s.cam.phase = .preparing)
    (registered : f.settingAt = some at_) (due : at_ ≤ s.tb.runCounter) {t : State} (h : settingLead s = t) :
    exec .settingLead s = .next (endEvent s t) := by
  have occasion : settingLeadDue s = true := by
    rw [settingLeadDue, momentDue_of_frame frame, phase, registered]
    exact decide_eq_true due
  exact h ▸ congrArg Host.Outcome.next (event_of_due occasion _ _)

theorem settingLead_unready (frame : s.cam.frame = some f) (metered : MeteredBy f m s)
    (off : ¬(s.cam.power = true ∧ s.cam.ready = true)) :
    settingLead s = readinessFailure (deadlined f m) (withDeadline f m s) := by
  rw [settingLead, frame]
  dsimp only
  rw [metered.getD, if_neg (by simpa using off)]
  rfl

theorem settingLead_run (frame : s.cam.frame = some f) (kind : f.kind = .run) (metered : MeteredBy f m s)
    (on : s.cam.power = true) (ready : s.cam.ready = true) :
    settingLead s = computeRun (deadlined f m) m (withDeadline f m s) := by
  rw [settingLead, frame]
  dsimp only
  rw [metered.getD, if_pos (by simp [on, ready])]
  split
  case h_1 => rfl
  case h_2 test => exact absurd (kind.symm.trans test) nofun

theorem settingLead_test (frame : s.cam.frame = some f) (kind : f.kind = .test) (metered : MeteredBy f m s)
    (on : s.cam.power = true) (ready : s.cam.ready = true) :
    settingLead s = computeTest (deadlined f m) m (withDeadline f m s) := by
  rw [settingLead, frame]
  dsimp only
  rw [metered.getD, if_pos (by simp [on, ready])]
  split
  case h_1 run => exact absurd (kind.symm.trans run) nofun
  case h_2 => rfl

end

/-- R81: a test shot as its computation leaves it, but for its exposure record. -/
def shotComputed (f : Frame) (m : Metered) (s : State) : Frame :=
  { f with flags := computeFlags (testInput s m) m (stretch s), iEff := (testInput s m).iEff, factor := stretch s }

/-- R81: the ramp engine after a test shot's computation, beside the run's filter and E_prev. -/
def withShotRamp (m : Metered) (s : State) : State :=
  { s with
    ramp :=
      { s.ramp with test := some { f := some (16 * m.value), ePrev := some (computeExposure (testInput s m)).eT } } }

theorem computeTest_eq (f : Frame) (m : Metered) (s : State) :
    computeTest f m s =
      leaveComputation (shotComputed f m s) (decide (s.params.linkPresent = 1)) (computeExposure (testInput s m))
        (withShotRamp m s) := rfl

/-- R70, R72: what the computation of a run frame reads, by the termination kind. -/
theorem runInput_eq {f : Frame} {c : Current} {s : State} (current : s.seq.current = some c) :
    runInput s f =
      { seg := segmentAt s f.slot, f := s.ramp.f, ePrev := s.ramp.ePrev
        fraction := biasFraction s.tb (segmentAt s f.slot) c.entry
        iEff := f.iEff, k := s.params.k, overhead := s.params.overhead, bulbThreshold := s.params.bulbThreshold
        link := decide (s.params.linkPresent = 1) } := by
  rw [runInput, current]

/-- Settles O47: each kind of frame missed or computed, and what a run frame's computation reads. -/
theorem settingLeadMissesOrComputesTheFrame : Obligations.SettingLeadMissesOrComputesTheFrame := by
  refine ⟨fun f at_ m s frame kind phase registered due metered => ⟨fun off pending uncomputed => ?_, fun on ready => ?_⟩,
    fun f at_ m s frame kind phase registered due metered => ⟨fun off uncomputed parked => ?_, fun on ready => ?_⟩,
    fun f c s current => ?_⟩
  · obtain ⟨q, cam, p, a, r, fails, ⟨hand, power, faults⟩, alert, outcome, cause, value, records, level⟩ :=
      readinessFailure_missed (f := deadlined f m) (s := withDeadline f m s) kind pending
    have lead := exec_settingLead frame phase registered due ((settingLead_unready frame metered off).trans fails)
    obtain ⟨-, number, slot, lAvg, eT, mode, gain, residual, -⟩ := id records
    have uncomputed' : (deadlined f m).exposure = none := uncomputed
    rw [uncomputed'] at eT mode gain residual
    exact ⟨_, r, lead, rfl, outcome, cause, number, slot, lAvg, eT, mode, value, gain, residual, records, level, hand, power,
      faults, alert, rfl, rfl, rfl, rfl⟩
  · obtain ⟨c, x, leaves, hand, focus, linked, absent, -⟩ := leaveComputation_spec
      { deadlined f m with flags := computeFlags (runInput s f) m f.factor } s.params.linkPresent
      (computeExposure (runInput s f))
      (computed (runInput s f) (computeFlags (runInput s f) m f.factor) (withDeadline f m s))
    have computes := (settingLead_run frame kind metered on ready).trans ((computeRun_eq _ _ _).trans leaves)
    exact ⟨_, _, _, exec_settingLead frame phase registered due computes, rfl, hand, rfl, rfl, rfl, rfl, rfl, rfl, rfl, rfl,
      focus, linked, absent, rfl, rfl, rfl, rfl, rfl, rfl, rfl⟩
  · obtain ⟨p, fails⟩ := readinessFailure_test (f := deadlined f m) (s := withDeadline f m s) kind parked
    have uncomputed' : (deadlined f m).exposure = none := uncomputed
    rw [testRecordOf, uncomputed', unpoweredPhase_eq] at fails
    exact ⟨_, exec_settingLead frame phase registered due ((settingLead_unready frame metered off).trans fails), rfl, rfl,
      rfl, rfl, rfl, rfl, rfl, rfl, rfl, rfl, rfl, rfl, rfl⟩
  · obtain ⟨c, x, leaves, hand, focus, linked, absent, -⟩ := leaveComputation_spec
      (shotComputed (deadlined f m) m (withDeadline f m s)) s.params.linkPresent (computeExposure (testInput s m))
      (withShotRamp m (withDeadline f m s))
    have computes := (settingLead_test frame kind metered on ready).trans ((computeTest_eq _ _ _).trans leaves)
    exact ⟨_, _, _, _, exec_settingLead frame phase registered due computes, rfl, rfl, hand, kind, rfl, rfl, rfl, rfl, rfl,
      rfl, rfl, focus, linked, absent, rfl, rfl, rfl, rfl, rfl, rfl, rfl⟩
  · rw [runInput_eq current]
    unfold biasFraction
    cases (segmentAt s f.slot).term
    case clock => cases c.entry.w0 <;> cases c.entry.span <;> rfl
    all_goals rfl

end Sys2Proof.Machine
end

section
/-! PROOFS. TEST_SHOT: its examination and the handing of its frame (R58, R81, R107, R108, R121, R122). -/

namespace Sys2Proof.Machine

/-! ## The examination -/

section
variable {s : State}

theorem testShotRequest_of_run
    (h : s.seq.state = .armed ∨ s.seq.state = .running ∨ s.seq.state = .holding ∨ s.seq.state = .hold) :
    testShotRequest s = (s, .badState, .empty) := by
  rcases h with q | q | q | q <;> rw [testShotRequest, q] <;> rfl

theorem testShotRequest_busy (q : s.seq.state = .idle ∨ s.seq.state = .ended)
    (busy : testInFlight s = true ∨ s.cam.phase = .cooldown) : testShotRequest s = (s, .busy, .empty) := by
  rcases q with q | q <;> rw [testShotRequest, q] <;> exact if_pos busy

/-- R13, R121: the program check of the active bank decides. -/
theorem testShotRequest_checks (q : s.seq.state = .idle ∨ s.seq.state = .ended) (test : testInFlight s = false)
    (phase : s.cam.phase ≠ .cooldown) :
    testShotRequest s =
      match programCheck s.params.overhead (activeBank s.prog) with
      | some (slot, reason) => (s, .badState, .check slot reason)
      | none => (beginTest s, .ok, .empty) := by
  have free : ¬(testInFlight s = true ∨ s.cam.phase = .cooldown) := by simp [test, phase]
  rcases q with q | q <;> rw [testShotRequest, q] <;> exact if_neg free

end

/-! ## The handing -/

/-- R121: the frame of a test shot requested now. -/
def shotOf (s : State) : Frame :=
  newFrame .test 0 (now s + s.params.wakeLead) 0 ((segmentAt s 0).interval * stretch s) (stretch s) s.params

/-- R81, R122: the test record IN_FLIGHT, and the shot's own F and E_prev unset. -/
def shotBegun (s : State) : State :=
  { s with
    cam := { s.cam with testRecord := { s.cam.testRecord with state := .inFlight } }
    ramp := { s.ramp with test := some { f := none, ePrev := none } } }

theorem beginTest_eq (s : State) : beginTest s = takeMoments (handFrame (shotOf s) (shotBegun s)) := rfl

/-- R107: a test shot handed, the camera switched on, in phase `ph`; `p` is what the accrual made of the power monitor. -/
def shotHanded (ph : Phase) (f : Frame) (p : Power) (m : Meter) (s : State) : State :=
  { shotBegun s with
    cam :=
      { s.cam with
        phase := ph, frame := some f, power := true, testRecord := { s.cam.testRecord with state := .inFlight } }
    pow := p, meter := m }

section
variable {s : State}

theorem handFrame_shot (off : s.cam.phase = .off) (parked : s.seq.state ≠ .running) (f : Frame) :
    ∃ p, handFrame f (shotBegun s) = shotHanded .waking f p s.meter s := by
  obtain ⟨p, on⟩ := setCamPower_parked true
    (s := (shotBegun s).modCam fun c => { c with phase := .waking, frame := some f }) (by simp) parked
  refine ⟨p, ?_⟩
  have phase : (shotBegun s).cam.phase = .off := off
  rw [handFrame, phase]
  dsimp only
  rw [on]
  rfl

theorem shot_meterLeadDue (p : Power) :
    meterLeadDue (shotHanded .waking (shotOf s) p s.meter s) =
      decide (s.params.wakeLead ≤ max s.params.meterLead (s.params.settingLead + 64)) := by
  rw [meterLeadDue, momentDue_of_frame (f := shotOf s) rfl]
  refine (reached_lead (now s + s.params.wakeLead) (effectiveMeterLead s.params) _).trans (decide_eq_decide.mpr ?_)
  exact Nat.add_le_add_iff_left

/-- R107: with the meter lead ahead the shot waits in WAKING. -/
theorem beginTest_waking (off : s.cam.phase = .off) (parked : s.seq.state ≠ .running)
    (ahead : max s.params.meterLead (s.params.settingLead + 64) < s.params.wakeLead) :
    ∃ p, beginTest s = shotHanded .waking (shotOf s) p s.meter s := by
  obtain ⟨p, hands⟩ := handFrame_shot off parked (shotOf s)
  refine ⟨p, ?_⟩
  have waits := (shot_meterLeadDue p).trans (decide_eq_false (Nat.not_le.mpr ahead))
  rw [beginTest_eq, hands, takeMoments_eq, serveIf_not_due waits, laterMoments_of_waiting (f := shotOf s) (.inl rfl)]

/-- R49, R107, R108: the meter with a test shot's request. -/
def shotMetering (s : State) : Meter := (meterRequest .frame .test (segmentAt s 0).rounding s).meter

/-- R107, R108: a meter lead already reached asks for the metering at once, and the later moments follow. -/
theorem beginTest_metered (off : s.cam.phase = .off) (parked : s.seq.state ≠ .running)
    (within : s.params.wakeLead ≤ max s.params.meterLead (s.params.settingLead + 64)) :
    ∃ p, beginTest s = laterMoments (shotHanded .preparing (opened (shotOf s)) p (shotMetering s) s) := by
  obtain ⟨p, hands⟩ := handFrame_shot off parked (shotOf s)
  refine ⟨p, ?_⟩
  have due := (shot_meterLeadDue p).trans (decide_eq_true within)
  rw [beginTest_eq, hands, takeMoments_eq, serveIf_due due]
  rfl

theorem shot_settingAt (p : Power) :
    reached (opened (shotOf s)).settingAt (shotHanded .preparing (opened (shotOf s)) p (shotMetering s) s) =
      decide (s.params.wakeLead ≤ s.params.settingLead) :=
  (reached_lead (now s + s.params.wakeLead) s.params.settingLead _).trans (decide_eq_decide.mpr Nat.add_le_add_iff_left)

/-- R108: with the setting lead ahead the shot waits for its metering in PREPARING. -/
theorem beginTest_preparing (off : s.cam.phase = .off) (parked : s.seq.state ≠ .running)
    (within : s.params.wakeLead ≤ max s.params.meterLead (s.params.settingLead + 64))
    (ahead : s.params.settingLead < s.params.wakeLead) :
    ∃ p, beginTest s = shotHanded .preparing (opened (shotOf s)) p (shotMetering s) s := by
  obtain ⟨p, begins⟩ := beginTest_metered off parked within
  refine ⟨p, begins.trans (laterMoments_of_waiting (f := opened (shotOf s)) (.inr ⟨rfl, rfl, ?_⟩))⟩
  exact (shot_settingAt p).trans (decide_eq_false (Nat.not_le.mpr ahead))

/-- R107, R108: a setting lead already reached is taken at the handing. -/
theorem beginTest_late (off : s.cam.phase = .off) (parked : s.seq.state ≠ .running)
    (within : s.params.wakeLead ≤ s.params.settingLead) :
    ∃ p, beginTest s = serveIf dueTimeDue dueTime (serveIf focusLeadDue focusLead
      (settingLead (shotHanded .preparing (opened (shotOf s)) p (shotMetering s) s))) := by
  obtain ⟨p, begins⟩ := beginTest_metered off parked (by omega)
  refine ⟨p, begins.trans (laterMoments_of_setting (f := opened (shotOf s)) rfl rfl ?_)⟩
  exact (shot_settingAt p).trans (decide_eq_true within)

end

/-- R110, R111: with both moments ahead neither is taken. -/
theorem moments_ahead {f : Frame} {s : State} (frame : s.cam.frame = some f) (focus : reached f.focusAt s = false)
    (due : reached f.dueAt s = false) : serveIf dueTimeDue dueTime (serveIf focusLeadDue focusLead s) = s := by
  have focus' : focusLeadDue s = false := by rw [focusLeadDue, momentDue_of_frame frame, focus, Bool.and_false]
  have due' : dueTimeDue s = false := by rw [dueTimeDue, momentDue_of_frame frame, due, Bool.and_false]
  rw [serveIf_not_due focus', serveIf_not_due due']

/-- R110: a focus lead below the setting lead lies ahead of a shot handed at its setting lead. -/
theorem shot_focusAt {s t : State} (clock : t.tb = s.tb) (within : s.params.settingLead ≤ s.params.wakeLead) :
    reached (shotOf s).focusAt t = false := by
  rw [reached_congr clock]
  change reached (if 0 < s.params.focusLead ∧ s.params.focusLead < s.params.settingLead then
    some (now s + s.params.wakeLead - s.params.focusLead) else none) s = false
  split
  case isTrue between =>
    rw [reached_lead, now, decide_eq_false (by omega)]
  case isFalse => rfl

theorem shot_dueAt {s t : State} (clock : t.tb = s.tb) (ahead : 0 < s.params.wakeLead) : reached (shotOf s).dueAt t = false := by
  rw [reached_congr clock]
  exact decide_eq_false (Nat.not_le.mpr (Nat.lt_add_of_pos_right ahead))

/-! ## The obligation -/

section
variable {s : State}

/-- R121: a test shot that waits for its setting lead. -/
theorem beginTest_waits (off : s.cam.phase = .off) (parked : s.seq.state ≠ .running)
    (ahead : s.params.settingLead < s.params.wakeLead) :
    ∃ ph f p m, beginTest s = shotHanded ph f p m s ∧ (f = shotOf s ∨ f = opened (shotOf s)) ∧
      (max s.params.meterLead (s.params.settingLead + 64) < s.params.wakeLead → ph = .waking ∧ m = s.meter) ∧
      (s.params.wakeLead ≤ max s.params.meterLead (s.params.settingLead + 64) →
        ph = .preparing ∧ f.meteringOpen = true ∧ m = shotMetering s) := by
  by_cases within : s.params.wakeLead ≤ max s.params.meterLead (s.params.settingLead + 64)
  · obtain ⟨p, begins⟩ := beginTest_preparing off parked within ahead
    exact ⟨_, _, p, _, begins, .inr rfl, fun later => absurd within (Nat.not_le.mpr later), fun _ => ⟨rfl, rfl, rfl⟩⟩
  · obtain ⟨p, begins⟩ := beginTest_waking off parked (Nat.not_le.mp within)
    exact ⟨_, _, p, _, begins, .inl rfl, fun _ => ⟨rfl, rfl⟩, fun sooner => absurd sooner within⟩

/-- R58, R109, R121, R122: with the setting lead reached and READY low the shot is MISSED. -/
theorem beginTest_missed (off : s.cam.phase = .off) (parked : s.seq.state ≠ .running)
    (equal : s.params.settingLead = s.params.wakeLead) (low : s.cam.ready = false) {m : Metered}
    (late : m = { value := s.meter.lLast.getD (-104 + s.params.calibration), dark := false, late := true }) :
    ∃ p, beginTest s =
      { shotBegun s with
        cam :=
          { s.cam with
            phase := unpoweredPhase s.cam, power := false, frame := none
            testRecord := testRecordOf .missed (deadlined (opened (shotOf s)) m) }
        pow := p, meter := shotMetering s, ramp := { s.ramp with test := none }
        line := { s.line with alerts := s.line.alerts ||| 0x0800 } } := by
  obtain ⟨p, begins⟩ := beginTest_late off parked equal.ge
  have unready := settingLead_unready (f := opened (shotOf s)) (m := m)
    (s := shotHanded .preparing (opened (shotOf s)) p (shotMetering s) s) rfl (.inr ⟨rfl, late⟩)
    fun on => absurd (on.2.symm.trans low) nofun
  obtain ⟨p', fails⟩ := readinessFailure_test (f := deadlined (opened (shotOf s)) m)
    (s := withDeadline (opened (shotOf s)) m (shotHanded .preparing (opened (shotOf s)) p (shotMetering s) s)) rfl parked
  refine ⟨p', ?_⟩
  rw [begins, unready, fails, moments_of_no_frame rfl]
  rfl

/-- R58, R81, R89, R93, R121: with the setting lead reached and READY high the shot is computed with a late metered value. -/
theorem beginTest_computed (off : s.cam.phase = .off) (parked : s.seq.state ≠ .running)
    (equal : s.params.settingLead = s.params.wakeLead) (ahead : 0 < s.params.wakeLead) (high : s.cam.ready = true)
    {m : Metered}
    (late : m = { value := s.meter.lLast.getD (-104 + s.params.calibration), dark := false, late := true }) :
    ∃ (p : Power) (c : Camera) (u : State),
      u = withDeadline (opened (shotOf s)) m (shotHanded .preparing (opened (shotOf s)) p (shotMetering s) s) ∧
      beginTest s = { withShotRamp m u with cam := c } ∧
      c.frame =
        some
          { shotComputed (deadlined (opened (shotOf s)) m) m u with
            exposure :=
              some
                (if s.params.linkPresent = 1 then computeExposure (testInput u m)
                else
                  { computeExposure (testInput u m) with
                    applied := some { value := (computeExposure (testInput u m)).ticks, gain := 0, residual := 0 } }) } ∧
      c.phase = (if s.params.linkPresent = 1 then .setting else .waitDue) ∧ c.power = true ∧
      c.focus = (s.cam.focus || decide (s.params.wakeLead ≤ s.params.focusLead)) ∧
      c.testRecord = { s.cam.testRecord with state := .inFlight } ∧ c.faultCount = s.cam.faultCount := by
  obtain ⟨p, begins⟩ := beginTest_late off parked equal.ge
  obtain ⟨u, hu⟩ : ∃ u, u = withDeadline (opened (shotOf s)) m
    (shotHanded .preparing (opened (shotOf s)) p (shotMetering s) s) := ⟨_, rfl⟩
  obtain ⟨c, x, leaves, hand, focus, linked, absent, power, record, faults⟩ := leaveComputation_spec
    (shotComputed (deadlined (opened (shotOf s)) m) m u) s.params.linkPresent (computeExposure (testInput u m))
    (withShotRamp m u)
  have computes := settingLead_test (f := opened (shotOf s)) (m := m)
    (s := shotHanded .preparing (opened (shotOf s)) p (shotMetering s) s) rfl rfl (.inr ⟨rfl, late⟩) rfl high
  subst hu
  refine ⟨p, c, _, rfl, ?_, ?_, ?_, power, ?_, record, faults⟩
  · rw [begins, computes, computeTest_eq]
    refine (congrArg (fun t => serveIf dueTimeDue dueTime (serveIf focusLeadDue focusLead t)) leaves).trans ?_
    exact moments_ahead hand (shot_focusAt rfl equal.le) (shot_dueAt rfl ahead)
  · by_cases link : s.params.linkPresent = 1
    · obtain ⟨-, -, rfl, -⟩ := linked link
      rw [hand, if_pos link]
    · obtain ⟨-, -, rfl⟩ := absent link
      rw [hand, if_neg link]
  · by_cases link : s.params.linkPresent = 1
    · obtain ⟨setting, -⟩ := linked link
      rw [setting, if_pos link]
    · obtain ⟨waiting, -⟩ := absent link
      rw [waiting, if_neg link]
  · rw [← equal]
    exact focus

end

/-- Settles O29: the refusals in order, and the accepted shot by where its setting lead stands. -/
theorem testShotIsExaminedAndHanded : Obligations.TestShotIsExaminedAndHanded := by
  intro s l
  have answers {t : State} {st : Status} {d : ReplyData} (h : testShotRequest (taken .testShot s) = (t, st, d)) :
      exec .testShot s = .next (endEvent s (replied .testShot st d t)) := exec_answered rfl l (congrArg some h)
  refine ⟨fun run => answers (testShotRequest_of_run (by simpa using run)), fun parked => ⟨fun busy => ?_,
    fun test free => ?_⟩⟩
  · exact answers (testShotRequest_busy (by simpa using parked) (by simpa [testInFlight_taken] using busy))
  have checks := testShotRequest_checks (s := taken .testShot s) (by simpa using parked)
    ((testInFlight_taken .testShot s).trans test) (by simpa using free)
  rw [taken_params, taken_prog] at checks
  have accepts {t : State} (check : programCheck s.params.overhead (activeBank s.prog) = none)
      (begins : beginTest (taken .testShot s) = t) :
      exec .testShot s = .next (endEvent s (replied .testShot .ok .empty t)) := by
    rw [check] at checks
    exact begins ▸ answers checks
  have idle : s.seq.state ≠ .running := by rcases parked with q | q <;> simp [q]
  obtain ⟨port, e, -, alerts, -⟩ := taken_frame .testShot s
  rw [e] at accepts
  refine ⟨fun i reason check => answers (by rw [checks, check]), fun check off ahead => ?_,
    fun m check off equal ahead late => ⟨fun low => ?_, fun high => ?_⟩⟩
  · obtain ⟨ph, f, p, m, begins, frame, waking, preparing⟩ := beginTest_waits (s := { s with line := port }) off idle ahead
    refine ⟨_, f, accepts check begins, rfl, ?_⟩
    rcases frame with rfl | rfl <;>
      exact ⟨rfl, rfl, rfl, rfl, rfl, rfl, rfl, rfl, rfl, rfl, rfl, rfl, rfl, waking, preparing⟩
  · obtain ⟨p, begins⟩ := beginTest_missed (s := { s with line := port }) off idle equal low late
    rw [testRecordOf, unpoweredPhase_eq] at begins
    exact ⟨_, accepts check begins, rfl, congrArg (· ||| 0x0800) alerts, rfl, rfl, rfl, rfl, rfl, rfl, rfl, rfl, rfl, rfl, rfl⟩
  · obtain ⟨p, c, u, hu, begins, frame, phase, power, focus, record, faults⟩ :=
      beginTest_computed (s := { s with line := port }) off idle equal ahead high late
    subst hu
    exact ⟨_, _, _, _, accepts check begins, rfl, rfl, frame, rfl, rfl, rfl, rfl, rfl, rfl, rfl, rfl, phase, power, focus,
      record, faults, alerts, rfl, rfl, rfl, rfl, rfl, rfl⟩

end Sys2Proof.Machine
end

section
/-! PROOFS. The end of an event: HOLD, the heater, the grant, the core state, the recovery timer and ATN (R50, R117, R128, R129,
R142, R161, R162, R199, entry 14). -/

namespace Sys2Proof.Machine

/-! ## What the stages after HOLD keep -/

/-- What forming the heater, the converter and the core state can change (R49, R117, R154, R161, R162): the sequencer's grid in
RUNNING, a camera kept on, the power monitor and the meter; of levels that wait for no rise the budget level only falls. -/
def FormsOn (s t : State) : Prop :=
  ∃ g b c p m n,
    t = { s with
          seq := { s.seq with grid := g, stretchPending := b }, cam := c, pow := p, meter := m, choices := n } ∧
    (s.seq.state ≠ .running → g = s.seq.grid ∧ b = s.seq.stretchPending) ∧ AtRest s.cam c ∧
    p.voltage = s.pow.voltage ∧ p.recovery = s.pow.recovery ∧
    (Unrisen s → Unrisen t ∧ p.budgetLevel ≤ s.pow.budgetLevel)

theorem FormsOn.refl (s : State) : FormsOn s s :=
  ⟨_, _, _, _, _, _, rfl, fun _ => ⟨rfl, rfl⟩, .inl rfl, rfl, rfl, fun u => ⟨u, le_rfl⟩⟩

theorem FormsOn.trans {s t u : State} (h : FormsOn s t) (k : FormsOn t u) : FormsOn s u := by
  obtain ⟨_, _, _, _, _, _, rfl, parked, rest, voltage, recovery, falls⟩ := h
  obtain ⟨_, _, _, _, _, _, rfl, parked', rest', voltage', recovery', falls'⟩ := k
  refine ⟨_, _, _, _, _, _, rfl, fun q => ?_, rest.trans rest', voltage'.trans voltage, recovery'.trans recovery,
    fun unrisen => ?_⟩
  · exact ⟨(parked' q).1.trans (parked q).1, (parked' q).2.trans (parked q).2⟩
  · obtain ⟨unrisen, below⟩ := falls unrisen
    obtain ⟨unrisen', below'⟩ := falls' unrisen
    exact ⟨unrisen', below'.trans below⟩

theorem FormsOn.of_levels {s t : State} (h : LevelsFormed s t) : FormsOn s t := by
  obtain ⟨_, _, _, _, rfl, parked, rest, _, _, _, _, _, _, rfl, -, -, falls⟩ := h
  exact ⟨_, _, _, _, _, _, rfl, parked, rest, rfl, rfl, falls⟩

/-- Accruals and levels after a change of the heater's or the core state's fields. -/
theorem FormsOn.of_pow {s t : State} {p : Power} (h : LevelsFormed { s with pow := p } t)
    (voltage : p.voltage = s.pow.voltage) (recovery : p.recovery = s.pow.recovery) (account : p.account = s.pow.account)
    (charge : p.chargeLevel = s.pow.chargeLevel) (budget : p.budgetLevel = s.pow.budgetLevel) : FormsOn s t := by
  have changed : FormsOn s { s with pow := p } := by
    refine ⟨_, _, _, _, _, _, rfl, fun _ => ⟨rfl, rfl⟩, .inl rfl, voltage, recovery, fun u => ⟨?_, budget.le⟩⟩
    simpa only [Unrisen, perMille, voltage, account, charge, budget] using u
  exact changed.trans (.of_levels h)

theorem FormsOn.of_meter (s : State) (m : Meter) (n : Nat) : FormsOn s { s with meter := m, choices := n } :=
  ⟨_, _, _, _, _, _, rfl, fun _ => ⟨rfl, rfl⟩, .inl rfl, rfl, rfl, fun u => ⟨u, le_rfl⟩⟩

section
variable {s t : State}

theorem FormsOn.line (h : FormsOn s t) : t.line = s.line := by
  obtain ⟨_, _, _, _, _, _, rfl, -⟩ := h
  rfl

theorem FormsOn.seq (h : FormsOn s t) (parked : s.seq.state ≠ .running) : t.seq = s.seq := by
  obtain ⟨g, b, _, _, _, _, rfl, stands, -⟩ := h
  obtain ⟨rfl, rfl⟩ := stands parked
  rfl

theorem FormsOn.cam (h : FormsOn s t) : AtRest s.cam t.cam := by
  obtain ⟨_, _, _, _, _, _, rfl, -, rest, -⟩ := h
  exact rest

theorem FormsOn.recovery (h : FormsOn s t) : t.pow.recovery = s.pow.recovery := by
  obtain ⟨_, _, _, _, _, _, rfl, -, -, -, recovery, -⟩ := h
  exact recovery

theorem FormsOn.unrisen (h : FormsOn s t) (u : Unrisen s) : Unrisen t := by
  obtain ⟨_, _, _, _, _, _, rfl, -, -, -, -, falls⟩ := h
  exact (falls u).1

/-- R162: while the levels only fall the heater's conditions are not gained. -/
theorem FormsOn.conditions (h : FormsOn s t) (u : Unrisen s) (held : heaterConditions t = true) :
    heaterConditions s = true := by
  obtain ⟨_, _, _, _, _, _, rfl, -, -, voltage, -, falls⟩ := h
  obtain ⟨-, below⟩ := falls u
  simp only [heaterConditions, Bool.and_eq_true, Bool.or_eq_true, decide_eq_true_eq] at held ⊢
  obtain ⟨⟨run, level⟩, normal⟩ := held
  exact ⟨⟨run, level.trans below⟩, voltage.symm.trans normal⟩

end

/-! ## The heater -/

/-- R162, R164: what the power monitor holds of the heater. -/
structure Heater where
  eligible : Bool
  duty : Nat
  pendingDuty : Nat
  heat : Bool
  temperatureAt : Option Nat
  heatPeriodAt : Option Nat
  heatOffAt : Option Nat

def heaterOf (p : Power) : Heater :=
  { eligible := p.eligible, duty := p.duty, pendingDuty := p.pendingDuty, heat := p.heat
    temperatureAt := p.temperatureAt, heatPeriodAt := p.heatPeriodAt, heatOffAt := p.heatOffAt }

/-- R162: a heater that has become not eligible. -/
def Heater.lost : Heater :=
  { eligible := false, duty := 0, pendingDuty := 0, heat := false, temperatureAt := none, heatPeriodAt := none
    heatOffAt := none }

/-- R162: a heater that has become eligible at a run time. -/
def Heater.gained (t : Nat) (heat : Bool) : Heater :=
  { eligible := true, duty := 0, pendingDuty := 0, heat := heat, temperatureAt := some (t + 16384)
    heatPeriodAt := some ((t + 2047) / 2048 * 2048), heatOffAt := none }

theorem LevelsFormed.heater {s t : State} (h : LevelsFormed s t) : heaterOf t.pow = heaterOf s.pow := by
  obtain ⟨_, _, _, _, rfl, -, -, _, _, _, _, _, _, rfl, -⟩ := h
  rfl

theorem LevelsFormed.core {s t : State} (h : LevelsFormed s t) : t.pow.core = s.pow.core := by
  obtain ⟨_, _, _, _, rfl, -, -, _, _, _, _, _, _, rfl, -⟩ := h
  rfl

theorem LevelsFormed.meter {s t : State} (h : LevelsFormed s t) : t.meter = s.meter := by
  obtain ⟨_, _, _, _, rfl, -⟩ := h
  rfl

/-- R117, R161: a camera switched off is as good for DOZE as one kept on. -/
theorem LevelsFormed.coreConditions {s t : State} (h : LevelsFormed s t) : coreConditions t = coreConditions s := by
  obtain ⟨_, _, _, _, rfl, -, rest, -⟩ := h
  rcases rest with rfl | ⟨on, rfl⟩
  · rfl
  · simp [Machine.coreConditions, on]

/-- R162: the heater's loss switches HEAT off, with the accrual of the change. -/
theorem heaterLost_formed (s : State) :
    LevelsFormed
      { s with
        pow :=
          { s.pow with
            eligible := false, duty := 0, pendingDuty := 0, heat := false, temperatureAt := none, heatPeriodAt := none
            heatOffAt := none } }
      (heaterLost s) := setHeat_formed false _

theorem heaterLost_heater (s : State) : heaterOf (heaterLost s).pow = .lost := (heaterLost_formed s).heater

theorem heaterLost_formsOn (s : State) : FormsOn s (heaterLost s) :=
  .of_pow (heaterLost_formed s) rfl rfl rfl rfl rfl

theorem heaterGained_formsOn (s : State) : FormsOn s (heaterGained s) :=
  ⟨_, _, _, _, _, _, rfl, fun _ => ⟨rfl, rfl⟩, .inl rfl, rfl, rfl, fun u => ⟨u, le_rfl⟩⟩

/-- R49: a slot that a request has reached is not EMPTY. -/
theorem queueSlot_meterRequest_ne_empty (c : MeterClass) (o : Owner) (r : Rounding) (s : State) :
    queueSlot (meterRequest c o r s).meter c ≠ .empty := by
  cases slot : queueSlot s.meter c with
  | running job start n cal => rw [queueSlot_meterRequest_running slot]; nofun
  | _ => rw [queueSlot_meterRequest_waiting (by rw [slot]; rfl)]; nofun

/-- R162: eligibility formed: it stands, is gained or is lost. -/
theorem heaterForm_cases (s : State) :
    (heaterForm s = s ∧ heaterConditions s = s.pow.eligible) ∨
      (heaterForm s = heaterGained s ∧ heaterConditions s = true ∧ s.pow.eligible = false) ∨
      (heaterForm s = heaterLost s ∧ heaterConditions s = false ∧ s.pow.eligible = true) := by
  by_cases same : heaterConditions s = s.pow.eligible
  · exact .inl ⟨if_pos same, same⟩
  · cases conditions : heaterConditions s
    · refine .inr (.inr ⟨?_, rfl, by simpa [conditions] using same⟩)
      rw [heaterForm, if_neg same, conditions]
      rfl
    · refine .inr (.inl ⟨?_, rfl, by simpa [conditions] using same⟩)
      rw [heaterForm, if_neg same, conditions]
      rfl

theorem heaterForm_formsOn (s : State) : FormsOn s (heaterForm s) := by
  rcases heaterForm_cases s with ⟨e, -⟩ | ⟨e, -⟩ | ⟨e, -⟩ <;> rw [e]
  · exact .refl s
  · exact heaterGained_formsOn s
  · exact heaterLost_formsOn s

theorem heaterForm_core (s : State) : (heaterForm s).pow.core = s.pow.core := by
  rcases heaterForm_cases s with ⟨e, -⟩ | ⟨e, -⟩ | ⟨e, -⟩ <;> rw [e]
  · rfl
  · exact (heaterLost_formed s).core

/-- R162: eligibility formed is as its conditions are. -/
theorem heaterForm_eligible {s : State} (u : Unrisen s) : (heaterForm s).pow.eligible = heaterConditions (heaterForm s) := by
  rcases heaterForm_cases s with ⟨e, same⟩ | ⟨e, gained, -⟩ | ⟨e, lost, -⟩ <;> rw [e]
  · exact same.symm
  · exact gained.symm
  · have off : heaterConditions (heaterLost s) = false := by
      rw [← Bool.not_eq_true]
      exact fun held => absurd (((heaterLost_formsOn s).conditions u held).symm.trans lost) nofun
    rw [off]
    exact congrArg Heater.eligible (heaterLost_heater s)

/-- R162: the accrual of a core change takes the heater's eligibility away, or leaves the heater. -/
theorem heaterDrop_cases (s : State) :
    (heaterDrop s = s ∧ (s.pow.eligible = true → heaterConditions s = true)) ∨
      (heaterDrop s = heaterLost s ∧ s.pow.eligible = true ∧ heaterConditions s = false) := by
  by_cases drops : (s.pow.eligible && !heaterConditions s) = true
  · exact .inr ⟨if_pos drops, by simpa using drops⟩
  · exact .inl ⟨if_neg drops, by simpa using drops⟩

theorem heaterDrop_formsOn (s : State) : FormsOn s (heaterDrop s) := by
  rcases heaterDrop_cases s with ⟨e, -⟩ | ⟨e, -⟩ <;> rw [e]
  · exact .refl s
  · exact heaterLost_formsOn s

/-- Whatever becomes of the heater, the core state and its conditions stand, and so does the queue. -/
theorem heaterDrop_core (s : State) :
    (heaterDrop s).pow.core = s.pow.core ∧ coreConditions (heaterDrop s) = coreConditions s ∧
      (heaterDrop s).meter = s.meter := by
  rcases heaterDrop_cases s with ⟨e, -⟩ | ⟨e, -⟩ <;> rw [e]
  · exact ⟨rfl, rfl, rfl⟩
  · exact ⟨(heaterLost_formed s).core, (heaterLost_formed s).coreConditions, (heaterLost_formed s).meter⟩

/-! ## The converter -/

theorem serveMeter_cases (s0 s : State) :
    (serveMeter s0 s = s ∧ (runningClass s.meter ≠ none ∨ waitingClasses s.meter = [])) ∨
      ∃ c job n, (n = s.choices ∨ n = s.choices + 1) ∧
        serveMeter s0 s = { s with meter := jobStarted c job s, choices := n } := by
  by_cases served : runningClass s.meter ≠ none ∨ waitingClasses s.meter = []
  · exact .inl ⟨serveMeter_of_served served, served⟩
  · obtain ⟨idle, waits⟩ := not_or.mp served
    obtain ⟨c, job, n, -, choice, e⟩ := serveMeter_grants (s := s0) (not_not.mp idle) waits
    exact .inr ⟨c, job, n, choice, e⟩

/-- R49, R50: after the grant no job waits for an idle converter. -/
theorem serveMeter_idle {s0 s : State} (idle : ∀ c, isRunning (queueSlot (serveMeter s0 s).meter c) = false) (c : MeterClass) :
    queueSlot (serveMeter s0 s).meter c = .empty := by
  rcases serveMeter_cases s0 s with ⟨e, served⟩ | ⟨c', job, n, -, e⟩ <;> rw [e] at idle ⊢
  · have none_waits := waitingClasses_eq_nil.mp (served.resolve_left (not_not.mpr (runningClass_eq_none.mpr idle)))
    have waits := none_waits c
    have runs := idle c
    cases slot : queueSlot s.meter c with
    | empty => rfl
    | waiting => simp [slot, isWaiting] at waits
    | running => simp [slot, isRunning] at runs
  · have runs := idle c'
    rw [(jobStarted_spec c' job s).2.1] at runs
    cases runs

/-- R50: a grant empties no slot. -/
theorem serveMeter_ne_empty {s0 s : State} {c : MeterClass} (h : queueSlot s.meter c ≠ .empty) :
    queueSlot (serveMeter s0 s).meter c ≠ .empty := by
  rcases serveMeter_cases s0 s with ⟨e, -⟩ | ⟨c', job, n, -, e⟩ <;> rw [e]
  · exact h
  · obtain ⟨-, runs, others⟩ := jobStarted_spec c' job s
    by_cases same : c = c'
    · rw [same, runs]
      nofun
    · rw [others c same]
      exact h

/-! ## The core state -/

theorem coreForm_cases (s0 s : State) :
    (coreForm s0 s = s ∧ coreConditions s0 = coreConditions s) ∨
      (LevelsFormed { s with pow := { s.pow with core := coreOf s } } (coreForm s0 s) ∧
        coreConditions s0 ≠ coreConditions s) := by
  by_cases same : coreConditions s0 = coreConditions s
  · exact .inl ⟨if_pos same, same⟩
  · refine .inr ⟨?_, same⟩
    rw [coreForm, if_neg same]
    exact setCore_formed _ s

theorem coreForm_formsOn (s0 s : State) : FormsOn s (coreForm s0 s) := by
  rcases coreForm_cases s0 s with ⟨e, -⟩ | ⟨formed, -⟩
  · rw [e]
    exact .refl s
  · exact .of_pow formed rfl rfl rfl rfl rfl

/-- R161: a changed condition gives the core state anew; the heater, the queue and the conditions stand. -/
theorem coreForm_core (s0 s : State) :
    (coreForm s0 s).pow.core = (if coreConditions s0 = coreConditions s then s.pow.core else coreOf s) ∧
      heaterOf (coreForm s0 s).pow = heaterOf s.pow ∧ coreConditions (coreForm s0 s) = coreConditions s ∧
      (coreForm s0 s).meter = s.meter := by
  rcases coreForm_cases s0 s with ⟨e, same⟩ | ⟨formed, other⟩
  · rw [e, if_pos same]
    exact ⟨rfl, rfl, rfl, rfl⟩
  · rw [if_neg other]
    exact ⟨formed.core, formed.heater, formed.coreConditions, formed.meter⟩

theorem coreConditions_iff (s : State) :
    coreConditions s = (true, true, true) ↔
      s.line.state = .dormant ∧ s.line.executing = none ∧ s.line.held = none ∧
        (∀ c, isRunning (queueSlot s.meter c) = false) ∧ (s.cam.phase = .off ∨ s.cam.phase = .idleOn) := by
  simp [coreConditions, runningClass_eq_none, and_assoc]

theorem coreOf_eq_doze (s : State) : coreOf s = .doze ↔ coreConditions s = (true, true, true) := by
  unfold coreOf
  split <;> simp_all

end Sys2Proof.Machine
end

section
/-! PROOFS. The end of an event, stage after stage, and what it comes to (R117, R128, R129, R142, R161, R162, R199, entry 14). -/

namespace Sys2Proof.Machine

/-! ## The stages -/

/-- Entry 14: the keep-on test and HOLD. -/
def held (t : State) : State := holdCheck (keepOnTest t)

/-- Entry 14: after the heater's eligibility, the converter's grant. -/
def granted (s t : State) : State := serveMeter s (heaterForm (held t))

/-- Entry 14: after the core state, the heater's loss that its accrual brings. -/
def finished (s t : State) : State := heaterDrop (coreForm s (granted s t))

/-- R142: the timer stands in HOLD for POWER alone. -/
def recoveryOf (s : State) : Option Nat :=
  if s.seq.state = .hold ∧ (s.seq.hold.map fun h => h.cause) = some .power then s.pow.recovery else none

theorem recoveryForm_eq (s : State) : recoveryForm s = { s with pow := { s.pow with recovery := recoveryOf s } } := by
  unfold recoveryForm recoveryOf
  split <;> rfl

theorem endEvent_eq (s t : State) :
    endEvent s t =
      { finished s t with
        pow := { (finished s t).pow with recovery := recoveryOf (finished s t) }
        line := { (finished s t).line with atn := atnOf (finished s t).line } } := by
  change formAtn (recoveryForm (finished s t)) = _
  rw [recoveryForm_eq]
  rfl

theorem keepOnTest_levels (t : State) : LevelsFormed t (keepOnTest t) := by
  unfold keepOnTest
  split
  · exact (keepOnOff_formed t).trans (settleLevels_formed _)
  · exact .refl t

theorem AtRest.eq_of_ne {c c' : Camera} (h : AtRest c c') (p : c.phase ≠ .idleOn) : c' = c :=
  h.resolve_right fun k => p k.1

/-- R117: a keep-on test that fails switches the camera off. -/
theorem keepOnTest_switches {t : State} (on : t.cam.phase = .idleOn) (fails : keepOnHolds t = false) :
    (keepOnTest t).cam = { t.cam with phase := .off, power := false } := by
  have off : (keepOnOff t).cam = { t.cam with phase := .off, power := false } := by
    rw [keepOnOff, if_pos ⟨on, fails⟩]
    rfl
  rw [keepOnTest, if_pos ⟨on, fails⟩, ← off]
  exact (FormsOn.of_levels (settleLevels_formed (keepOnOff t))).cam.eq_of_ne (by rw [off]; nofun)

/-- What the keep-on test and HOLD leave of the event's state. -/
theorem held_spec (t : State) :
    (held t).cam = (keepOnTest t).cam ∧ (held t).pow.core = t.pow.core ∧ heaterOf (held t).pow = heaterOf t.pow ∧
      (held t).pow.recovery = t.pow.recovery ∧ (held t).tb = t.tb ∧ (Unrisen t → Unrisen (held t)) := by
  have levels := keepOnTest_levels t
  have forms := FormsOn.of_levels levels
  obtain ⟨q, a, e⟩ := holdCheck_frame (keepOnTest t)
  rw [held, e]
  refine ⟨rfl, levels.core, levels.heater, forms.recovery, ?_, forms.unrisen⟩
  obtain ⟨_, _, _, _, e, -⟩ := levels
  rw [e]

theorem granted_formsOn (s t : State) : FormsOn (held t) (granted s t) := by
  obtain ⟨m, n, e⟩ := serveMeter_frame s (heaterForm (held t))
  rw [granted, e]
  exact (heaterForm_formsOn (held t)).trans (.of_meter _ m n)

/-- The grant leaves the power monitor. -/
theorem granted_pow (s t : State) : (granted s t).pow = (heaterForm (held t)).pow := by
  obtain ⟨m, n, e⟩ := serveMeter_frame s (heaterForm (held t))
  rw [granted, e]

theorem finished_formsOn (s t : State) : FormsOn (granted s t) (finished s t) :=
  (coreForm_formsOn s _).trans (heaterDrop_formsOn _)

theorem formsOn_after_hold (s t : State) : FormsOn (held t) (finished s t) :=
  (granted_formsOn s t).trans (finished_formsOn s t)

/-! ## The sequencer, the camera and the timer -/

/-- R128, R129: what HOLD is reached with, or ENDED, stands outside RUNNING. -/
theorem endEvent_parked (s : State) {t : State} (parked : (held t).seq.state ≠ .running) :
    (endEvent s t).line.alerts = (held t).line.alerts ∧ (endEvent s t).seq = (held t).seq := by
  have alerts := congrArg LinePort.alerts (formsOn_after_hold s t).line
  rw [endEvent_eq]
  exact ⟨alerts, (formsOn_after_hold s t).seq parked⟩

theorem endEvent_cam (s t : State) : AtRest (keepOnTest t).cam (endEvent s t).cam := by
  rw [endEvent_eq, ← (held_spec t).1]
  exact (formsOn_after_hold s t).cam

theorem endEvent_recovery (s t : State) :
    (endEvent s t).pow.recovery =
      if (endEvent s t).seq.state = .hold ∧ ((endEvent s t).seq.hold.map fun h => h.cause) = some .power then
        t.pow.recovery
      else none := by
  obtain ⟨-, -, -, recovery, -⟩ := held_spec t
  rw [endEvent_eq, ← recovery, ← (formsOn_after_hold s t).recovery]
  rfl

/-! ## HOLD -/

section
variable {s t : State}

theorem held_of_not_idleOn (p : t.cam.phase ≠ .idleOn) : held t = holdCheck t := by
  rw [held, keepOnTest, if_neg fun k => p k.1]

/-- R128, entry 21: with the ending mark the run ends. -/
theorem holdCheck_ends (q : t.seq.state = .holding) (parked : cameraParked t = true) (seed : t.seq.awaitingSeed = false)
    (ending : t.seq.ending = true) : holdCheck t = enterEnded t := by
  rw [holdCheck, if_pos ⟨q, parked, seed⟩, if_pos ending]

/-- R120, R129: what keeps a run in HOLDING. -/
theorem holdCheck_waits
    (h : t.cam.frame ≠ none ∨ t.cam.drain = true ∨ t.cam.power = true ∨ t.seq.awaitingSeed = true) : holdCheck t = t := by
  refine if_neg fun ⟨_, parked, seed⟩ => ?_
  simp only [cameraParked, Bool.and_eq_true, Option.isNone_iff_eq_none, Bool.not_eq_true'] at parked
  obtain ⟨⟨frame, drain⟩, power⟩ := parked
  simp [frame, drain, power, seed] at h

end

/-! ## The heater -/

/-- R162: eligibility at the end of an event is as its conditions give it, where the levels stood before. -/
theorem endEvent_eligible (s : State) {t : State} (levels : LevelLaw t) :
    (endEvent s t).pow.eligible = heaterConditions (endEvent s t) := by
  obtain ⟨-, -, -, -, -, unrisen⟩ := held_spec t
  have u := unrisen (.of_levelLaw levels)
  have grants : (granted s t).pow.eligible = heaterConditions (granted s t) := by
    obtain ⟨m, n, e⟩ := serveMeter_frame s (heaterForm (held t))
    rw [granted, e]
    exact heaterForm_eligible u
  have u' := (granted_formsOn s t).unrisen u
  obtain ⟨-, heater, -⟩ := coreForm_core s (granted s t)
  have eligible : (coreForm s (granted s t)).pow.eligible = (granted s t).pow.eligible := congrArg Heater.eligible heater
  have only : heaterConditions (coreForm s (granted s t)) = true → (coreForm s (granted s t)).pow.eligible = true := by
    intro conditions
    rw [eligible, grants]
    exact (coreForm_formsOn s _).conditions u' conditions
  have u'' := (coreForm_formsOn s _).unrisen u'
  suffices h : (finished s t).pow.eligible = heaterConditions (finished s t) by
    rw [endEvent_eq]
    exact h
  rw [finished]
  rcases heaterDrop_cases (coreForm s (granted s t)) with ⟨e, stays⟩ | ⟨e, -, lost⟩ <;> rw [e]
  · exact Bool.eq_iff_iff.mpr ⟨stays, only⟩
  · have off : heaterConditions (heaterLost (coreForm s (granted s t))) = false := by
      rw [← Bool.not_eq_true]
      exact fun conditions => absurd (((heaterLost_formsOn _).conditions u'' conditions).symm.trans lost) nofun
    rw [off]
    exact congrArg Heater.eligible (heaterLost_heater _)

theorem heaterConditions_iff (s : State) :
    heaterConditions s = true ↔
      (s.seq.state = .running ∨ s.seq.state = .armed) ∧ s.params.heaterMinLevel ≤ s.pow.budgetLevel ∧
        s.pow.voltage = .normal := by
  simp [heaterConditions, and_assoc]

/-- R161, entry 14: the queue after the grant, and the core state by its conditions. -/
theorem endEvent_core (s t : State) :
    (endEvent s t).meter = (granted s t).meter ∧
      (endEvent s t).pow.core =
        if coreConditions s = coreConditions (endEvent s t) then t.pow.core else coreOf (endEvent s t) := by
  obtain ⟨core, -, conditions, meter⟩ := coreForm_core s (granted s t)
  obtain ⟨core', conditions', meter'⟩ := heaterDrop_core (coreForm s (granted s t))
  have same : coreConditions (endEvent s t) = coreConditions (granted s t) := by
    rw [endEvent_eq]
    exact conditions'.trans conditions
  obtain ⟨-, before, -⟩ := held_spec t
  have start : (granted s t).pow.core = t.pow.core := by rw [granted_pow, heaterForm_core, before]
  refine ⟨by rw [endEvent_eq]; exact meter'.trans meter, ?_⟩
  rw [coreOf, same, ← coreOf, ← start, ← core, endEvent_eq]
  exact core'

/-- R162: the heater stands, is lost, or is gained with its request. -/
theorem endEvent_heater (s t : State) :
    heaterOf (endEvent s t).pow = heaterOf t.pow ∨ heaterOf (endEvent s t).pow = .lost ∨
      (heaterOf (endEvent s t).pow = .gained t.tb.runCounter t.pow.heat ∧
        queueSlot (endEvent s t).meter .temperature ≠ .empty) := by
  obtain ⟨-, -, before, -, clock, -⟩ := held_spec t
  have last : heaterOf (endEvent s t).pow = heaterOf (finished s t).pow := by rw [endEvent_eq]; rfl
  rw [last, (endEvent_core s t).1, finished]
  rcases heaterDrop_cases (coreForm s (granted s t)) with ⟨e, -⟩ | ⟨e, -⟩ <;> rw [e]
  · rw [(coreForm_core s _).2.1, granted_pow]
    rcases heaterForm_cases (held t) with ⟨e, -⟩ | ⟨e, -⟩ | ⟨e, -⟩
    · exact .inl (by rw [e, before])
    · refine .inr (.inr ⟨?_, ?_⟩)
      · rw [e, ← clock, ← show (held t).pow.heat = t.pow.heat from congrArg Heater.heat before]
        rfl
      · rw [granted, e]
        exact serveMeter_ne_empty (queueSlot_meterRequest_ne_empty _ _ _ _)
    · exact .inr (.inl (by rw [e]; exact heaterLost_heater _))
  · exact .inr (.inl (heaterLost_heater _))

/-! ## What the end of an event leaves -/

/-- R189, R190: a reply to a request that changes nothing leaves nothing to form. -/
theorem endEvent_replied (r : Request) (st : Status) (d : ReplyData) {s : State} (settled : Settled s) (l : Listening s) :
    endEvent s (replied r st d (taken r s)) = replied r st d (taken r s) := by
  obtain ⟨port, e, mask, alerts, atn, -, executing, -⟩ := taken_frame r s
  obtain ⟨keepOn, holding, heater, queue, recovery, attention⟩ := settled
  rw [e]
  refine endEvent_of_settled ⟨keepOn, holding, heater, queue, recovery, ?_⟩ (.inl ?_)
  · exact atn.trans (attention.trans (by rw [atnOf, ← alerts, ← mask]; rfl))
  · exact Prod.ext (by simp [coreConditions, replied, executing, l.1]) rfl

/-- Of the line port the end of an event forms the alert set and ATN. -/
theorem endEvent_line (s t : State) :
    (endEvent s t).line = { t.line with alerts := (endEvent s t).line.alerts, atn := (endEvent s t).line.atn } := by
  obtain ⟨_, _, _, _, _, _, _, e⟩ := endEvent_formed s t
  rw [e]

/-- Entry 42: at most one free choice is made, that of the grant. -/
theorem endEvent_choices (s t : State) : (endEvent s t).choices = t.choices ∨ (endEvent s t).choices = t.choices + 1 := by
  obtain ⟨_, _, _, keep⟩ := keepOnTest_frame t
  obtain ⟨_, _, hold⟩ := holdCheck_frame (keepOnTest t)
  obtain ⟨_, _, _, _, heater⟩ := heaterForm_frame (held t)
  have before : (heaterForm (held t)).choices = t.choices := by rw [heater, held, hold, keep]
  obtain ⟨_, _, _, core⟩ := coreForm_frame s (granted s t)
  obtain ⟨_, _, _, drop⟩ := heaterDrop_frame (coreForm s (granted s t))
  have after : (endEvent s t).choices = (granted s t).choices := by rw [endEvent_eq, finished, drop, core]
  rw [after, ← before]
  rcases serveMeter_cases s (heaterForm (held t)) with ⟨e, -⟩ | ⟨_, _, n, choice, e⟩ <;> rw [granted, e]
  · exact .inl rfl
  · exact choice

/-- R128, R129: HOLDING with the camera parked comes to HOLD or ENDED, and waits otherwise. -/
theorem endEvent_holding {h : HoldData} (s : State) {t : State} (q : t.seq.state = .holding) (hold : t.seq.hold = some h)
    (p : t.cam.phase ≠ .idleOn) :
    (t.cam.frame = none → t.cam.drain = false → t.cam.power = false → t.seq.awaitingSeed = false →
      (t.seq.ending = false →
        ∃ n d e, (endEvent s t).line.alerts = t.line.alerts ||| 0x0001 ∧
          (endEvent s t).seq =
            { t.seq with
              state := .hold
              hold :=
                some
                  { h with
                    f := t.ramp.f, ePrev := t.ramp.ePrev, exposureCount := n, debounce := d, times := e } } ∧
          (h.fresh = true → n = h.exposureCount ∧ d = h.debounce ∧ e = h.times) ∧
          (∀ c : Current, h.fresh = false → t.seq.current = some c →
            n = c.entry.exposureCount ∧ d = c.entry.debounce ∧ e = some (c.entry.runTime, c.entry.w0, c.entry.span))) ∧
      (t.seq.ending = true →
        (endEvent s t).line.alerts = t.line.alerts ∧ (endEvent s t).seq = (enterEnded t).seq)) ∧
    (t.cam.frame ≠ none ∨ t.cam.drain = true ∨ t.cam.power = true ∨ t.seq.awaitingSeed = true →
      (endEvent s t).line.alerts = t.line.alerts ∧ (endEvent s t).seq = t.seq) := by
  have comes {u : State} (e : holdCheck t = u) (parked : u.seq.state ≠ .running) :
      (endEvent s t).line.alerts = u.line.alerts ∧ (endEvent s t).seq = u.seq := by
    rw [← held_of_not_idleOn p] at e
    subst e
    exact endEvent_parked s parked
  refine ⟨fun frame drain power seed => ⟨fun running => ?_, fun ending => ?_⟩, fun waits => ?_⟩
  · obtain ⟨n, d, e, reached, kept, copied⟩ := holdCheck_parked q running seed frame drain power hold
    obtain ⟨alerts, seq⟩ := comes reached nofun
    exact ⟨n, d, e, alerts, seq, kept, copied⟩
  · have parked : cameraParked t = true := by simp [cameraParked, frame, drain, power]
    exact comes (holdCheck_ends q parked seed ending) nofun
  · exact comes (holdCheck_waits waits) (by rw [q]; nofun)

/-- Settles O3: nothing where nothing is left; what stands; HOLD or ENDED; and each thing formed. -/
theorem endOfEventFormsWhatTheRulesForm : Obligations.EndOfEventFormsWhatTheRulesForm := by
  refine ⟨⟨fun s t => endEvent_of_settled, fun r st d s => endEvent_replied r st d⟩, fun s t => ?_,
    fun h s t q hold p => ?_, fun s t u hu => ?_⟩
  · obtain ⟨tb, prog, ramp, log, params, pending⟩ := endEvent_same s t
    refine ⟨?_, tb, prog, ramp, log, params, endEvent_choices s t, pending, endEvent_line s t⟩
    rw [endEvent_atn, atnOf, bne_iff_ne]
  · obtain ⟨reaches, waits⟩ := endEvent_holding s q hold p
    refine ⟨fun frame drain power seed => ?_, waits⟩
    obtain ⟨runs, ends⟩ := reaches frame drain power seed
    refine ⟨fun running fresh => ?_, fun c running fresh current => ?_, ends⟩
    · obtain ⟨n, d, e, alerts, seq, kept, -⟩ := runs running
      obtain ⟨rfl, rfl, rfl⟩ := kept fresh
      exact ⟨alerts, seq⟩
    · obtain ⟨n, d, e, alerts, seq, -, copied⟩ := runs running
      obtain ⟨rfl, rfl, rfl⟩ := copied c fresh current
      exact ⟨alerts, seq⟩
  · subst hu
    obtain ⟨queue, core⟩ := endEvent_core s t
    refine ⟨fun idle => ?_, fun same => ?_, fun changed => ?_, fun levels => ?_, fun before after => ?_,
      fun before after => ?_, endEvent_recovery s t, fun on fails => ?_, fun p => ?_⟩
    · rw [queue] at idle ⊢
      exact serveMeter_idle idle
    · rw [core, if_pos same]
    · rw [core, if_neg changed, coreOf_eq_doze, coreConditions_iff]
    · rw [endEvent_eligible s levels, heaterConditions_iff]
    · rcases endEvent_heater s t with same | lost | ⟨gained, request⟩
      · exact absurd (after.symm.trans ((congrArg Heater.eligible same).trans before)) nofun
      · exact absurd (after.symm.trans (congrArg Heater.eligible lost)) nofun
      · exact ⟨congrArg Heater.duty gained, congrArg Heater.pendingDuty gained, congrArg Heater.temperatureAt gained,
          congrArg Heater.heatPeriodAt gained, request⟩
    · rcases endEvent_heater s t with same | lost | ⟨gained, -⟩
      · exact absurd (before.symm.trans ((congrArg Heater.eligible same).symm.trans after)) nofun
      · exact ⟨congrArg Heater.heat lost, congrArg Heater.duty lost, congrArg Heater.pendingDuty lost,
          congrArg Heater.temperatureAt lost, congrArg Heater.heatPeriodAt lost, congrArg Heater.heatOffAt lost⟩
      · exact absurd ((congrArg Heater.eligible gained).symm.trans after) nofun
    · have off := keepOnTest_switches on fails
      have cam := (endEvent_cam s t).eq_of_ne (by rw [off]; nofun)
      rw [cam, off]
      exact ⟨rfl, rfl⟩
    · have stays : (keepOnTest t).cam = t.cam := by rw [keepOnTest, if_neg fun k => p k.1]
      exact ((endEvent_cam s t).eq_of_ne (stays ▸ p)).trans stays

end Sys2Proof.Machine
end

section
/-! PROOFS. The owners' tests of the frame overhead and of the log size (R79, R181, R197). -/

namespace Sys2Proof.Machine

/-! ## Intervals shorter than an overhead allows -/

/-- R79: the slot that the overhead's test stops at. -/
theorem shortAt_iff (overhead : Nat) (b : Bank) (i : Nat) :
    ((slotOf b i).map fun g => decide (g.interval < overhead + 1024)).getD false = true ↔
      ∃ g, slotOf b i = some g ∧ g.interval < overhead + 1024 := by
  cases slotOf b i <;> simp

/-- R79: the slot that the overhead's test passes. -/
theorem notShortAt_iff (overhead : Nat) (b : Bank) (i : Nat) :
    ¬((slotOf b i).map fun g => decide (g.interval < overhead + 1024)).getD false = true ↔
      ∀ g, slotOf b i = some g → overhead + 1024 ≤ g.interval := by
  rw [shortAt_iff]
  push Not
  rfl

theorem shortInterval_of_firstShort {overhead : Nat} {b : Bank} {i : Nat} (h : FirstShort overhead b i) :
    shortInterval overhead b = some i := by
  obtain ⟨inside, short, before⟩ := h
  rw [shortInterval, List.find?_range_eq_some]
  exact ⟨(shortAt_iff overhead b i).mpr short, List.mem_range.mpr inside, fun j hj => by
    simpa using (notShortAt_iff overhead b j).mpr (before j hj)⟩

theorem shortInterval_of_noneShort {overhead : Nat} {b : Bank} (h : NoneShort overhead b) :
    shortInterval overhead b = none :=
  List.find?_eq_none.mpr fun i inside => (notShortAt_iff overhead b i).mpr (h i (List.mem_range.mp inside))

/-! ## The owners' tests -/

section
variable {v : Int} {s : State} {i : Nat}

/-- R79: the active bank is tested first. -/
theorem ownerTest_overhead_active (h : FirstShort v.toNat (activeBank s.prog) i) :
    ownerTest .overhead v s = some (.slotBank i s.prog.active) := by
  simp [ownerTest, shortInterval_of_firstShort h]

/-- R79: a pending commit brings the staged bank into the test. -/
theorem ownerTest_overhead_staged (active : NoneShort v.toNat (activeBank s.prog)) (pending : s.prog.commitPending = true)
    (h : FirstShort v.toNat (stagedBank s.prog) i) :
    ownerTest .overhead v s = some (.slotBank i (otherBank s.prog.active)) := by
  simp [ownerTest, shortInterval_of_noneShort active, pending, shortInterval_of_firstShort h, stagedName]

theorem ownerTest_overhead_passes (active : NoneShort v.toNat (activeBank s.prog))
    (staged : s.prog.commitPending = true → NoneShort v.toNat (stagedBank s.prog)) : ownerTest .overhead v s = none := by
  cases pending : s.prog.commitPending
  · simp [ownerTest, shortInterval_of_noneShort active, pending]
  · simp [ownerTest, shortInterval_of_noneShort active, shortInterval_of_noneShort (staged pending)]

/-- R181: a log that holds a record keeps its size. -/
theorem ownerTest_logSize_refuses (h : s.log.records ≠ []) : ownerTest .logSize v s = some .empty := by
  simp [ownerTest, h]

theorem ownerTest_logSize_passes (h : s.log.records = []) : ownerTest .logSize v s = none := by
  simp [ownerTest, h]

end

/-! ## The values stored -/

/-- R197: the overhead has no act of its owner but the store, which gives back the state for the value already held. -/
theorem applyParameter_overhead {v : Int} (h : 0 ≤ v) (s : State) :
    applyParameter .overhead v s = { s with params := { s.params with overhead := v.toNat } } := by
  by_cases held : paramValue s.params s.line.mask .overhead = v
  · subst held
    exact applyParameter_of_held nofun
  · rw [applyParameter_of_new held]
    rfl

/-- R181: the smallest of the four sizes not below the value, and 512 above 512. -/
theorem logSizeInRange_eq {size : Nat} {v : Int} (four : size ∈ [(64 : Nat), 128, 256, 512]) (top : v ≤ size ∨ size = 512)
    (least : size = 64 ∨ (size : Int) / 2 < v) : logSizeInRange v = size := by
  simp only [List.mem_cons, List.not_mem_nil, or_false] at four
  unfold logSizeInRange
  split_ifs <;> omega

/-- R181: a new size comes with the read index at 0. -/
theorem applyParameter_logSize {size : Nat} {s : State} (h : s.params.logSize ≠ size) :
    applyParameter .logSize size s =
      { s with params := { s.params with logSize := size }, log := { s.log with readIndex := 0 } } := by
  have new : paramValue s.params s.line.mask .logSize ≠ size := fun held => h (Int.ofNat_inj.mp held)
  rw [applyParameter_of_new new]
  rfl

theorem applyParameter_logSize_held {size : Nat} {s : State} (h : s.params.logSize = size) :
    applyParameter .logSize size s = s := by
  subst h
  exact applyParameter_of_held nofun

/-! ## The two parameters set -/

/-- Steps 4 and 5 of R197 for a parameter whose range alone decides what step 3 changes. -/
theorem exec_setParam_accepted {id : Byte} {q : ParamId} {value : Word} {v : Int} {s t : State} (l : Listening s)
    (h : paramOf id = some q) (unlocked : ¬(1 ≤ id.toNat ∧ id.toNat ≤ 5 ∧ s.prog.lock = true ∧ s.seq.state ≠ .hold))
    (low : q ≠ .vLow) (lead : q ≠ .meterLead) (range : paramInRange s.params q value = v)
    (passes : ownerTest q v s = none) (store : applyParameter q v (taken (.setParam id value) s) = t) :
    exec (.setParam id value) s = .next (endEvent s (replied (.setParam id value)
      (if v = value.toInt then .ok else .clamped) (.parameter id v) t)) := by
  subst range store
  obtain ⟨-, -, examined⟩ := setParamIsExaminedInOrder.1 id value s l
  obtain ⟨-, accepted, -⟩ := examined q h unlocked
  simpa [low, lead] using accepted passes

/-- Step 4 of R197: the owner's test refuses. -/
theorem exec_setParam_refused {id : Byte} {q : ParamId} {value : Word} {v : Int} {d : ReplyData} {s : State}
    (l : Listening s) (h : paramOf id = some q)
    (unlocked : ¬(1 ≤ id.toNat ∧ id.toNat ≤ 5 ∧ s.prog.lock = true ∧ s.seq.state ≠ .hold))
    (range : paramInRange s.params q value = v) (fails : ownerTest q v s = some d) :
    exec (.setParam id value) s = .next (endEvent s
      (replied (.setParam id value) .badState d (taken (.setParam id value) s))) := by
  subst range
  obtain ⟨-, -, examined⟩ := setParamIsExaminedInOrder.1 id value s l
  exact (examined q h unlocked).1 d fails

/-- Settles O10: the owners' tests at steps 4 and 5 of SET_PARAM. -/
theorem overheadAndLogSizeAreTestedByTheirOwners : Obligations.OverheadAndLogSizeAreTestedByTheirOwners := by
  refine ⟨fun value s l => ⟨fun lock hold => ?_, fun unlocked => ?_⟩, fun value s l => ?_⟩
  · obtain ⟨-, locked, -⟩ := setParamIsExaminedInOrder.1 0x04 value s l
    exact locked (by decide) (by decide) lock hold
  · have passes : ¬(1 ≤ (0x04 : Byte).toNat ∧ (0x04 : Byte).toNat ≤ 5 ∧ s.prog.lock = true ∧ s.seq.state ≠ .hold) :=
      fun h => unlocked h.2.2
    have range : paramInRange s.params .overhead value = max 0 (min 65535 value.toInt) := clampInt_eq (by decide) _
    refine ⟨fun i short => ?_, fun i active pending short => ?_, fun active staged => ?_⟩
    · exact exec_setParam_refused l rfl passes range (ownerTest_overhead_active short)
    · exact exec_setParam_refused l rfl passes range (ownerTest_overhead_staged active pending short)
    · exact exec_setParam_accepted l rfl passes nofun nofun range (ownerTest_overhead_passes active staged)
        (by rw [applyParameter_overhead (le_max_left _ _), taken_params])
  · have unguarded : ¬(1 ≤ (0x50 : Byte).toNat ∧ (0x50 : Byte).toNat ≤ 5 ∧ s.prog.lock = true ∧ s.seq.state ≠ .hold) :=
      fun h => absurd h.2.1 (by decide)
    refine ⟨fun records => ?_, fun size four empty top least => ?_⟩
    · exact exec_setParam_refused l rfl unguarded rfl (ownerTest_logSize_refuses records)
    · have accepted {t : State} := exec_setParam_accepted (t := t) (value := value) l rfl unguarded nofun nofun
        (logSizeInRange_eq four top least) (ownerTest_logSize_passes empty)
      simp only [eq_comm (a := value.toInt)]
      refine ⟨fun new => ?_, fun held => ?_⟩
      · exact accepted (by rw [applyParameter_logSize (by rwa [taken_params]), taken_params, taken_log])
      · exact accepted (applyParameter_logSize_held (by rwa [taken_params]))

end Sys2Proof.Machine
end

section
/-! PROOFS. The exposure computation: rounding and the filter, the bias and the target, the flags, and the bounds of cap, split
and bulb ticks (R67 to R86). -/

namespace Sys2Proof.Machine

/-! ## Rounding and the filter -/

theorem rnd_down_spec (num : Int) {den : Int} (h : 0 < den) :
    rnd .down num den * den ≤ num ∧ num < (rnd .down num den + 1) * den :=
  ⟨Int.ediv_mul_le num h.ne', Int.lt_ediv_add_one_mul_self num h⟩

theorem rnd_nearest_spec (num : Int) {den : Int} (h : 0 < den) :
    2 * (rnd .nearest num den * den) ≤ 2 * num + den ∧ 2 * num + den < 2 * ((rnd .nearest num den + 1) * den) := by
  have twice : 0 < 2 * den := by omega
  have low := Int.ediv_mul_le (2 * num + den) twice.ne'
  have high := Int.lt_ediv_add_one_mul_self (2 * num + den) twice
  rw [mul_left_comm] at low high
  exact ⟨low, high⟩

/-- R67: what both modes keep to: at most half a unit above the fraction, and less than one below it. -/
theorem rnd_brackets (mode : Rounding) (num : Int) {den : Int} (h : 0 < den) :
    2 * (rnd mode num den * den) ≤ 2 * num + den ∧ num < (rnd mode num den + 1) * den := by
  cases mode with
  | down =>
    obtain ⟨low, high⟩ := rnd_down_spec num h
    exact ⟨by omega, high⟩
  | nearest =>
    obtain ⟨low, high⟩ := rnd_nearest_spec num h
    exact ⟨low, by omega⟩

/-- R67: over a whole denominator, rounding stays between 0 and the numerator. -/
theorem rnd_between (mode : Rounding) (num : Int) {den : Int} (h : 0 < den) :
    min 0 num ≤ rnd mode num den ∧ rnd mode num den ≤ max 0 num := by
  obtain ⟨low, high⟩ := rnd_brackets mode num h
  generalize rnd mode num den = r at low high
  refine ⟨?_, ?_⟩
  · by_contra out
    have steep : 0 ≤ -(r + 1) * (den - 1) := mul_nonneg (by omega) (by omega)
    have below : r + 1 ≤ num := by omega
    linarith
  · by_contra out
    have steep : 0 ≤ (r - 1) * (den - 1) := mul_nonneg (by omega) (by omega)
    have above : num + 1 ≤ r := by omega
    linarith

/-- R69: a step of the filter goes no further than its target. -/
theorem filterStep_between (mode : Rounding) (k : Nat) (f lAvg : Int) :
    min f (16 * lAvg) ≤ filterStep mode k f lAvg ∧ filterStep mode k f lAvg ≤ max f (16 * lAvg) := by
  have between := rnd_between mode (16 * lAvg - f) (den := 2 ^ k) (by positivity)
  unfold filterStep
  omega

/-! ## Bias and target -/

theorem biasOf_some (g : Segment) (num : Int) {den : Int} (h : 0 < den) :
    biasOf g (some (num, den)) =
      g.biasStart + rnd g.rounding ((g.biasEnd - g.biasStart) * max 0 (min den num)) den := by
  rw [biasOf, clampInt_eq h.le]

/-- R74: in RAMP the target moves from the previous one by at most the slew. -/
theorem modeTarget_ramp {g : Segment} (h : g.mode = .ramp) (p eRaw : Int) :
    modeTarget g (some p) eRaw = p + max (-(g.slew : Int)) (min (g.slew : Int) (eRaw - p)) := by
  rw [← clampInt_eq (by omega)]
  simp [modeTarget, h]

theorem modeTarget_fixed {g : Segment} (h : g.mode = .fixed) (ePrev : Option Int) (eRaw : Int) :
    modeTarget g ePrev eRaw = g.fixedE := by
  simp [modeTarget, h]

theorem modeTarget_holdLast {g : Segment} (h : g.mode = .holdLast) (p eRaw : Int) : modeTarget g (some p) eRaw = p := by
  simp [modeTarget, h]

/-- R74: the modes that follow a previous target take the raw one when there is none. -/
theorem modeTarget_unset {g : Segment} (h : g.mode ≠ .fixed) (eRaw : Int) : modeTarget g none eRaw = eRaw := by
  cases mode : g.mode
  case fixed => exact absurd mode h
  all_goals simp [modeTarget, mode]

/-- R74: only RAMP with a previous target is slewed. -/
theorem slewFlag_iff (g : Segment) (ePrev : Option Int) (eRaw : Int) :
    slewFlag g ePrev eRaw = true ↔
      g.mode = .ramp ∧ ∃ p : Int, ePrev = some p ∧ (eRaw - p < -(g.slew : Int) ∨ (g.slew : Int) < eRaw - p) := by
  unfold slewFlag
  split <;> simp [*]

/-! ## Flags -/

theorem getLsbD_flagIf (c : Bool) (flag : Half) (n : Nat) : (flagIf c flag).getLsbD n = (c && flag.getLsbD n) := by
  cases c <;> simp [flagIf]

/-- R205: the bits of the flags that a computation sets. -/
theorem getLsbD_computed_flags {n : Nat} (h : n < 16) :
    flagSatHi.getLsbD n = decide (n = 0) ∧ flagSatLo.getLsbD n = decide (n = 1) ∧ flagSlew.getLsbD n = decide (n = 2) ∧
      flagDark.getLsbD n = decide (n = 3) ∧ flagMeterLate.getLsbD n = decide (n = 4) ∧
      flagStretched.getLsbD n = decide (n = 9) := by
  revert n
  decide

/-- R74, R78, R80: each flag of a computation by its condition, and no other bit. -/
theorem getLsbD_computeFlags (i : ComputeInput) (m : Metered) (factor : Nat) {n : Nat} (h : n < 16) :
    (computeFlags i m factor).getLsbD n = true ↔
      (n = 0 ∧ (computeExposure i).dCap + (computeExposure i).gMaxEff < (computeExposure i).eS) ∨
      (n = 1 ∧ (computeExposure i).eS < (computeExposure i).dLo ∧
        ¬(computeExposure i).dCap + (computeExposure i).gMaxEff < (computeExposure i).eS) ∨
      (n = 2 ∧ i.seg.mode = .ramp ∧
        ∃ p : Int, i.ePrev = some p ∧
          ((computeExposure i).eRaw - p < -(i.seg.slew : Int) ∨ (i.seg.slew : Int) < (computeExposure i).eRaw - p)) ∨
      (n = 3 ∧ m.dark = true) ∨ (n = 4 ∧ m.late = true) ∨ (n = 9 ∧ 1 < factor) := by
  obtain ⟨hi, lo, slew, dark, late, stretched⟩ := getLsbD_computed_flags h
  simp only [← slewFlag_iff, computeFlags, BitVec.getLsbD_or, getLsbD_flagIf, hi, lo, slew, dark, late, stretched,
    Bool.or_eq_true, Bool.and_eq_true, decide_eq_true_eq, Bool.not_eq_true', decide_eq_false_iff_not]
  refine iff_of_eq ?_
  ac_rfl

/-! ## The cap -/

/-- R76: 2^(m/16) is at most 1 + m/16, both raised to the sixteenth power. -/
theorem two_pow_le_sixteenths {m : Nat} (h : m < 16) : 2 ^ m * 16 ^ 16 ≤ (16 + m) ^ 16 := by
  revert m
  decide

/-- R76: the logarithm is never above sixteen times the true one. -/
theorem two_pow_log16_le {v : Nat} (h : v ≠ 0) : 2 ^ (log16 v).toNat ≤ v ^ 16 := by
  have low := Nat.log2_self_le h
  have high : v < 2 ^ (v.log2 + 1) := Nat.lt_log2_self
  have mantissa := mantissa_lt high
  rw [log16_of_bounds low high, Int.toNat_natCast]
  generalize v.log2 = p at *
  generalize hm : (v - 2 ^ p) * 16 / 2 ^ p = m at *
  have scaled : 2 ^ p * (16 + m) ≤ 16 * v := by
    have floor := Nat.div_mul_le_self ((v - 2 ^ p) * 16) (2 ^ p)
    rw [hm] at floor
    calc 2 ^ p * (16 + m) = 2 ^ p * 16 + m * 2 ^ p := by ring
      _ ≤ 2 ^ p * 16 + (v - 2 ^ p) * 16 := by omega
      _ = 16 * v := by omega
  refine Nat.le_of_mul_le_mul_right ?_ (show 0 < 16 ^ 16 by positivity)
  calc 2 ^ (16 * p + m) * 16 ^ 16 = (2 ^ p) ^ 16 * (2 ^ m * 16 ^ 16) := by ring
    _ ≤ (2 ^ p) ^ 16 * (16 + m) ^ 16 := Nat.mul_le_mul_left _ (two_pow_le_sixteenths mantissa)
    _ = (2 ^ p * (16 + m)) ^ 16 := (Nat.mul_pow ..).symm
    _ ≤ (16 * v) ^ 16 := Nat.pow_le_pow_left scaled 16
    _ = v ^ 16 * 16 ^ 16 := by ring

/-- R76: an available time of a second or more has a cap of 0 or more. -/
theorem intervalCap_nonneg {avail : Nat} (h : 1024 ≤ avail) : 0 ≤ intervalCap avail := by
  have ten : 10 ≤ avail.log2 := (Nat.le_log2 (by omega)).mpr h
  simp only [intervalCap, log16]
  generalize (avail - 2 ^ avail.log2) * 16 / 2 ^ avail.log2 = m
  omega

/-! ## Clamp and split -/

theorem clampTarget_mem {lo hi : Int} (h : lo ≤ hi) (e : Int) : lo ≤ clampTarget lo hi e ∧ clampTarget lo hi e ≤ hi := by
  unfold clampTarget
  split <;> (try split) <;> omega

/-- R78: the clamp gives a bound, or the target itself. -/
theorem clampTarget_cases (lo hi e : Int) :
    clampTarget lo hi e = e ∨ clampTarget lo hi e = lo ∨ clampTarget lo hi e = hi := by
  unfold clampTarget
  split <;> (try split) <;> simp

/-- R77: the floor is never above the cap. -/
theorem durationFloor_le (g : Segment) (avail : Nat) (link : Bool) (bulb : Int) :
    durationFloor g avail link bulb ≤ durationCap g avail := by
  unfold durationFloor
  split <;> exact min_le_right _ _

theorem gainCap_nonneg (g : Segment) (link : Bool) : 0 ≤ gainCap g link := by
  unfold gainCap
  split <;> omega

/-- R85: the bulb ticks lie in 1..avail. -/
theorem bulbTicks_mem (mode : Rounding) {avail : Nat} (h : 1 ≤ avail) (d : Int) :
    1 ≤ bulbTicks mode avail d ∧ bulbTicks mode avail d ≤ avail := by
  simp only [bulbTicks]
  split <;> (try split) <;> omega

/-! ## What a computation gives -/

section
variable (i : ComputeInput)

/-- R78: an available time of a second or more leaves a floor within the range of E. -/
theorem le_computed_dLo (l : SegmentLaw i.seg) (h : 1024 ≤ i.iEff - i.overhead) : -208 ≤ (computeExposure i).dLo := by
  obtain ⟨-, -, -, -, -, -, -, -, -, -, -, -, -, -, -, ⟨dMin, -⟩, ⟨dMax, -⟩, -⟩ := l
  have cap := intervalCap_nonneg h
  change -208 ≤ durationFloor i.seg (i.iEff - i.overhead) i.link i.bulbThreshold
  unfold durationFloor durationCap
  split <;> omega

theorem computed_top_le (l : SegmentLaw i.seg) : (computeExposure i).dCap + (computeExposure i).gMaxEff ≤ 288 := by
  obtain ⟨-, -, -, -, -, -, -, -, -, -, -, -, -, -, -, -, ⟨-, dMax⟩, gMax, -⟩ := l
  change min i.seg.dMax (intervalCap (i.iEff - i.overhead)) + gainCap i.seg i.link ≤ 288
  unfold gainCap
  split <;> omega

theorem computed_dLo_le_dCap : (computeExposure i).dLo ≤ (computeExposure i).dCap := durationFloor_le ..

theorem computed_gMaxEff_nonneg : 0 ≤ (computeExposure i).gMaxEff := gainCap_nonneg ..

/-- R78: E_t lies from D_lo to Dcap + G_max. -/
theorem computed_eT_mem :
    (computeExposure i).dLo ≤ (computeExposure i).eT ∧
      (computeExposure i).eT ≤ (computeExposure i).dCap + (computeExposure i).gMaxEff :=
  clampTarget_mem ((computed_dLo_le_dCap i).trans (le_add_of_nonneg_right (computed_gMaxEff_nonneg i))) _

/-- R83: the split of E_t. -/
theorem computed_split :
    let e := computeExposure i
    e.dLo ≤ e.d ∧ e.d ≤ e.dCap ∧ 0 ≤ e.g ∧ e.g ≤ e.gMaxEff ∧ e.eT = e.d + e.g := by
  intro e
  have floor : e.dLo ≤ e.dCap := computed_dLo_le_dCap i
  have gain : 0 ≤ e.gMaxEff := computed_gMaxEff_nonneg i
  have d : e.d = max (min e.eT e.dCap) e.dLo := rfl
  have g : e.g = max (e.eT - e.d) 0 := rfl
  obtain ⟨low, high⟩ : e.dLo ≤ e.eT ∧ e.eT ≤ e.dCap + e.gMaxEff := computed_eT_mem i
  omega

/-- R76: the cap is never above the available time. -/
theorem computed_dCap_le (h : i.iEff - i.overhead ≠ 0) :
    2 ^ ((computeExposure i).dCap + 160).toNat ≤ (computeExposure i).avail ^ 16 := by
  have cap : (computeExposure i).dCap ≤ log16 (i.iEff - i.overhead) - 160 := min_le_right _ _
  have exponent : ((computeExposure i).dCap + 160).toNat ≤ (log16 (i.iEff - i.overhead)).toNat := by omega
  exact (Nat.pow_le_pow_right two_pos exponent).trans (two_pow_log16_le h)

/-- R77, R84: an absent link leaves no gain. -/
theorem computed_no_link (h : i.link = false) :
    (computeExposure i).g = 0 ∧ (computeExposure i).gReq = 0 ∧ (computeExposure i).eT = (computeExposure i).d := by
  obtain ⟨-, -, low, high, sum⟩ := computed_split i
  have gain : (computeExposure i).gMaxEff = 0 := by simp [computeExposure, gainCap, h]
  have g : (computeExposure i).g = 0 := by omega
  have req : (computeExposure i).gReq = rnd i.seg.rounding (computeExposure i).g 2 := rfl
  have half := rnd_between i.seg.rounding 0 (den := 2) (by decide)
  rw [g] at req
  omega

/-- R74, R78: the slew holds of the target itself wherever no bound cuts it. -/
theorem computed_slew {p : Int} (ramp : i.seg.mode = .ramp) (prev : i.ePrev = some p) :
    (p - i.seg.slew ≤ (computeExposure i).eT ∧ (computeExposure i).eT ≤ p + i.seg.slew) ∨
      (computeExposure i).eT = (computeExposure i).dLo ∨
      (computeExposure i).eT = (computeExposure i).dCap + (computeExposure i).gMaxEff := by
  have target : (computeExposure i).eS =
      p + max (-(i.seg.slew : Int)) (min (i.seg.slew : Int) ((computeExposure i).eRaw - p)) := by
    rw [← modeTarget_ramp ramp, ← prev]
    rfl
  have clamped : (computeExposure i).eT = (computeExposure i).eS ∨ (computeExposure i).eT = (computeExposure i).dLo ∨
      (computeExposure i).eT = (computeExposure i).dCap + (computeExposure i).gMaxEff := clampTarget_cases ..
  exact clamped.imp_left fun e => by omega

/-- R84: bulb from the threshold on, and wherever there is no link. -/
theorem modeOf_eq_bulb (bulb d : Int) (link : Bool) : modeOf bulb d link = .bulb ↔ bulb ≤ d ∨ link = false := by
  unfold modeOf
  split <;> simp [*]

/-- R86: only TIMED requests a shutter code. -/
theorem computed_sReq :
    (computeExposure i).sReq =
      if (computeExposure i).mode = .timed then rnd i.seg.rounding (computeExposure i).d 2 else 0 := by
  change (match (computeExposure i).mode with | .timed => rnd i.seg.rounding (computeExposure i).d 2 | .bulb => 0) = _
  cases (computeExposure i).mode <;> rfl

end

/-- Settles O55: rounding, the computation's formulas, its flags, and its bounds. -/
theorem exposureArithmeticKeepsItsBounds : Obligations.ExposureArithmeticKeepsItsBounds := by
  refine ⟨filterStep_between, fun num den h => ⟨rnd_down_spec num h, rnd_nearest_spec num h⟩, fun i => ?_,
    fun i m factor n h => ?_, fun i l interval => ?_⟩
  · refine ⟨fun unbiased => ?_, fun num den biased h => ?_, rfl, fun fixed => modeTarget_fixed fixed _ _,
      fun p prev => ⟨fun ramp => ?_, fun holdLast => ?_⟩, fun unset free => ?_, computed_sReq i, rfl⟩
    · exact congrArg (biasOf i.seg) unbiased
    · exact (congrArg (biasOf i.seg) biased).trans (biasOf_some i.seg num h)
    · exact (congrArg (modeTarget i.seg · _) prev).trans (modeTarget_ramp ramp p _)
    · exact (congrArg (modeTarget i.seg · _) prev).trans (modeTarget_holdLast holdLast p _)
    · exact (congrArg (modeTarget i.seg · _) unset).trans (modeTarget_unset free _)
  · exact getLsbD_computeFlags i m factor h
  · have avail : 1024 ≤ i.iEff - i.overhead := by omega
    obtain ⟨above, below, noLoss, gain, sum⟩ := computed_split i
    obtain ⟨low, high⟩ := computed_eT_mem i
    obtain ⟨one, most⟩ := bulbTicks_mem i.seg.rounding (by omega : 1 ≤ i.iEff - i.overhead) (computeExposure i).d
    exact ⟨above, below, noLoss, gain, sum, (le_computed_dLo i l avail).trans low, high.trans (computed_top_le i l), rfl,
      one, most, computed_dCap_le i (by omega), modeOf_eq_bulb .., computed_no_link i, fun p => computed_slew i⟩

end Sys2Proof.Machine
end

section
/-! PROOFS. From the meter lead to the end of the shutter hold, and the close of the accessory exchange (R88 to R91,
R94 to R98, R100, R108, R110 to R112). -/

namespace Sys2Proof.Machine

/-! ## The moments and the bytes before the exposure -/

/-- R22, R107: a registered moment that is reached is taken in a phase that awaits it. -/
theorem momentDue_of_reached {at_ : Frame → Option Nat} {phases : List Phase} {f : Frame} {n : Nat} {s : State}
    (frame : s.cam.frame = some f) (phase : s.cam.phase ∈ phases) (registered : at_ f = some n)
    (due : n ≤ s.tb.runCounter) : momentDue at_ phases s = true := by
  rw [momentDue_of_frame frame, registered, List.contains_iff_mem.mpr phase]
  exact decide_eq_true due

section
variable {f : Frame} {s : State}

/-- R58, R108: the FRAME request of a run frame or of a test shot. -/
theorem requestMetering_eq (frame : s.cam.frame = some f) :
    requestMetering s =
      meterRequest .frame (if f.kind = .run then .frame else .test) (segmentAt s f.slot).rounding
        { s with
          cam := { s.cam with phase := .preparing, frame := some { f with meterAt := none, meteringOpen := true } } } := by
  unfold requestMetering
  rw [frame]
  dsimp only
  cases f.kind <;> rfl

theorem settingRecordSent_eq (sending : s.cam.exchange = .sending) :
    settingRecordSent s = { s with cam := { s.cam with exchange := .awaiting } } := if_pos sending

theorem replyLeadByte_eq (awaiting : s.cam.exchange = .awaiting) (assembling : s.cam.assembling = false) :
    replyLeadByte s = { s with cam := { s.cam with assembling := true } } := if_pos ⟨awaiting, assembling⟩

theorem accessoryByteError_eq (awaiting : s.cam.exchange = .awaiting) :
    accessoryByteError s = { s with cam := { s.cam with assembling := false } } := if_pos awaiting

/-- An event with no occasion has no effect (entries 2 and 3). -/
theorem event_of_not_due {occasion : Bool} (h : occasion = false) (op : State → State) : event occasion op s = s :=
  if_neg (by simp [h])

end

/-- Settles O46: each moment and byte by its occasion and what it does. -/
theorem momentsBeforeTheExposureAreTaken : Obligations.MomentsBeforeTheExposureAreTaken := by
  intro f at_ s frame due
  refine ⟨fun waking registered => ?_, fun phase registered => ?_, fun sending => ?_, fun awaiting idle => ?_,
    fun awaiting => ?_, fun others => ?_⟩
  · rw [← requestMetering_eq frame]
    have occasion : meterLeadDue s = true := momentDue_of_reached frame (by simp [waking]) registered due
    exact congrArg Host.Outcome.next (event_of_due occasion _ _)
  · rw [← focusLead_eq frame]
    have occasion : focusLeadDue s = true := momentDue_of_reached frame (by simpa using phase) registered due
    exact congrArg Host.Outcome.next (event_of_due occasion _ _)
  · rw [← settingRecordSent_eq sending]
    exact congrArg Host.Outcome.next (event_of_due (decide_eq_true sending) _ _)
  · rw [← replyLeadByte_eq awaiting idle]
    exact congrArg Host.Outcome.next (event_of_due (decide_eq_true awaiting) _ _)
  · rw [← accessoryByteError_eq awaiting]
    exact congrArg Host.Outcome.next (event_of_due (decide_eq_true awaiting) _ _)
  · have closed : decide (s.cam.exchange = .awaiting) = false := decide_eq_false others
    refine ⟨congrArg Host.Outcome.next (event_of_not_due closed _), congrArg Host.Outcome.next (event_of_not_due closed _),
      fun status mode shutter gain checksum => congrArg Host.Outcome.next (event_of_not_due ?_ _)⟩
    rw [closed, Bool.false_and]

/-! ## The close of an exchange -/

/-- R205: a bit that joins a flag set stands in it. -/
theorem flags_of_set {a b mask : Half} (h : b &&& mask = mask) : (a ||| b) &&& mask = mask := by
  grind

/-- R205: bits outside a mask leave what the mask shows. -/
theorem flags_of_clear {a b mask : Half} (h : b &&& mask = 0) : (a ||| b) &&& mask = a &&& mask := by
  rw [BitVec.and_or_distrib_right, h]
  exact BitVec.or_zero

theorem flags_or_zero (a : Half) : a ||| 0 = a := BitVec.or_zero

theorem clampResidual_eq (r : Int) : clampResidual r = max (-127) (min 127 r) := clampInt_eq (by decide) r

section
variable {e : Exposure} {sh gn : Int}

/-- R95: a TIMED frame takes the settings of a camera in TIMED. -/
theorem failExposure_timed (mode : e.mode = .timed) :
    failExposure e (some { mode := .timed, shutter := sh, gain := gn }) =
      ({ e with
          applied :=
            some { value := sh, gain := gn, residual := max (-127) (min 127 (e.eT - 2 * (sh + gn))) } }, 0x0020) := by
  unfold failExposure
  rw [mode]
  dsimp only
  rw [clampResidual_eq]
  rfl

/-- R96: a BULB frame is compensated for the gain of a camera in BULB. -/
theorem failExposure_bulb (mode : e.mode = .bulb) (bounds : e.dLo ≤ e.dCap) :
    failExposure e (some { mode := .bulb, shutter := sh, gain := gn }) =
      ({ e with
          ticks := bulbTicks e.rounding e.avail (max e.dLo (min e.dCap (e.d + e.g - 2 * gn)))
          applied :=
            some
              { value := bulbTicks e.rounding e.avail (max e.dLo (min e.dCap (e.d + e.g - 2 * gn)))
                gain := gn
                residual :=
                  max (-127) (min 127 (e.eT - (max e.dLo (min e.dCap (e.d + e.g - 2 * gn)) + 2 * gn))) } },
        0x00A0) := by
  unfold failExposure
  rw [mode]
  dsimp only
  rw [clampResidual_eq, compensated, clampInt_eq bounds]
  rfl

/-- R97: with the settings UNKNOWN or of the other mode the frame is taken as computed. -/
theorem failExposure_unknown {settings : Option CamSettings} (other : ∀ c, settings = some c → c.mode ≠ e.mode) :
    failExposure e settings =
      ({ e with
          applied :=
            some { value := if e.mode = .timed then e.sReq else e.ticks, gain := e.gReq, residual := 0 } }, 0x0820) := by
  unfold failExposure
  rcases settings with _ | ⟨m, sh, gn⟩
  · cases mode : e.mode <;> rfl
  · have differs : m ≠ e.mode := other _ rfl
    cases mode : e.mode <;> cases m
    case bulb.bulb => exact absurd mode.symm differs
    case bulb.timed => rfl
    case timed.bulb => rfl
    case timed.timed => exact absurd mode.symm differs

/-- R95 to R97: SET_FAIL, alone, with COMPENSATED or with RESID_UNKNOWN. -/
theorem failExposure_flags_cases (e : Exposure) (settings : Option CamSettings) :
    (failExposure e settings).2 = 0x0020 ∨ (failExposure e settings).2 = 0x00A0 ∨
      (failExposure e settings).2 = 0x0820 := by
  unfold failExposure
  split
  · exact .inl rfl
  · exact .inr (.inr rfl)
  · exact .inr (.inl rfl)
  · exact .inr (.inr rfl)

/-- R91, R95: a failure flags SET_FAIL, and SET_LATE only where d adds it. -/
theorem failExposure_flags (e : Exposure) (settings : Option CamSettings) :
    (failExposure e settings).2 &&& 0x0020 = 0x0020 ∧ (failExposure e settings).2 &&& 0x0040 = 0 ∧
      ((failExposure e settings).2 ||| flagSetLate) &&& 0x0060 = 0x0060 := by
  rcases failExposure_flags_cases e settings with h | h | h <;> rw [h] <;> decide

end

/-- A frame whose exchange has closed (R90, R91, R98, R100): the record finished, and what the close flags. -/
def exchangeClosed (f : Frame) (e : Exposure) (flags : Half) (s : State) : State :=
  { s with
    cam :=
      { idleExchange s.cam with
        phase := .waitDue, frame := some { f with exposure := some e, flags := f.flags ||| flags } }
    ramp := if f.kind = .run then { s.ramp with sticky := s.ramp.sticky ||| (flags &&& 0x00A0) } else s.ramp }

section
variable {f : Frame} {e : Exposure} {s : State}

/-- R98: what d adds to the flags of a close does not join the sticky set. -/
theorem closeExchange_eq (result : ExchangeResult) {extra : Half} (late : extra &&& 0x00A0 = 0)
    (frame : s.cam.frame = some f) (exposure : f.exposure = some e) :
    closeExchange result extra s =
      exchangeClosed f (closedExposure e s.cam.settings result).1 ((closedExposure e s.cam.settings result).2 ||| extra)
        s := by
  unfold closeExchange exchangeClosed
  rw [frame]
  dsimp only
  rw [exposure]
  dsimp only
  rw [flags_of_clear late, BitVec.or_assoc]
  split <;> rfl

theorem closeExchange_now (result : ExchangeResult) (frame : s.cam.frame = some f) (exposure : f.exposure = some e) :
    closeExchange result 0 s =
      exchangeClosed f (closedExposure e s.cam.settings result).1 (closedExposure e s.cam.settings result).2 s := by
  rw [closeExchange_eq result (by decide) frame exposure, flags_or_zero]

end

/-! ## The reply -/

section
variable {f : Frame} {e : Exposure} {status mode shutter gain checksum : Byte} {s : State}

theorem exec_replyRecord (awaiting : s.cam.exchange = .awaiting) (assembling : s.cam.assembling = true) {t : State}
    (h : judgeReply status mode shutter gain checksum s = t) :
    exec (.replyRecord status mode shutter gain checksum) s = .next (endEvent s t) := by
  have occasion : (decide (s.cam.exchange = .awaiting) && s.cam.assembling) = true := by simp [awaiting, assembling]
  rw [← h, show judgeReply status mode shutter gain checksum s = replyRecord status mode shutter gain checksum s from
    (if_pos ⟨awaiting, assembling⟩).symm]
  exact congrArg Host.Outcome.next (event_of_due occasion _ _)

/-- R90: a reply with a wrong checksum, or one that is not APPLIED with a defined mode. -/
def Rejected (status mode shutter gain checksum : Byte) : Prop :=
  0xA9 + status + mode + shutter + gain + checksum ≠ 0 ∨ status ≠ 0x01 ∨ (mode ≠ 0x01 ∧ mode ≠ 0x02)

/-- R90: a rejected reply fails the exchange and leaves the last-known settings. -/
theorem judgeReply_rejected (rejected : Rejected status mode shutter gain checksum) (frame : s.cam.frame = some f)
    (exposure : f.exposure = some e) :
    judgeReply status mode shutter gain checksum s =
      exchangeClosed f (failExposure e s.cam.settings).1 (failExposure e s.cam.settings).2 s := by
  have closes (reason : FailReason) := closeExchange_now (.failure reason) frame exposure
  unfold judgeReply
  split
  · exact closes .checksum
  next sum =>
    split
    · exact closes .refused
    next applied =>
      have undefined : linkModeOf mode = none := by
        rcases rejected with wrong | status | ⟨bulb, timed⟩
        · exact absurd (decide_eq_false wrong) sum
        · exact absurd status applied
        · rw [linkModeOf, if_neg bulb, if_neg timed]
      rw [undefined]
      exact closes .refused

/-- R87: the last-known settings as an APPLIED reply gives them. -/
def settingsApplied (m : CamMode) (shutter gain : Byte) (s : State) : State :=
  { s with cam := { s.cam with settings := some { mode := m, shutter := shutter.toInt, gain := gain.toNat } } }

/-- R90: how an exchange closes at an APPLIED reply in mode `m`. -/
def appliedResult (e : Exposure) (m : CamMode) (shutter gain : Byte) : ExchangeResult :=
  if e.mode = m then .success shutter.toInt gain.toNat else .failure .mode

/-- R90, R94, R97: the record and the flags that an APPLIED reply in mode `m` gives. -/
def appliedClose (e : Exposure) (m : CamMode) (shutter gain : Byte) : Exposure × Half :=
  closedExposure e (some { mode := m, shutter := shutter.toInt, gain := gain.toNat }) (appliedResult e m shutter gain)

/-- R87, R90: a correct APPLIED reply updates the last-known settings and closes the exchange by its mode. -/
theorem judgeReply_applied {m : CamMode} (sum : 0xA9 + 0x01 + mode + shutter + gain + checksum = 0)
    (defined : linkModeOf mode = some m) (frame : s.cam.frame = some f) (exposure : f.exposure = some e) :
    judgeReply 0x01 mode shutter gain checksum s =
      exchangeClosed f (appliedClose e m shutter gain).1 (appliedClose e m shutter gain).2
        (settingsApplied m shutter gain s) := by
  have frameMode : ((s.cam.frame.bind fun f => f.exposure).map fun e => e.mode) = some e.mode := by
    rw [frame, Option.bind_some, exposure, Option.map_some]
  have sumOk : ¬replyChecksumOk 0x01 mode shutter gain checksum = false :=
    fun wrong => of_decide_eq_false wrong sum
  refine Eq.trans ?_ (closeExchange_now (s := settingsApplied m shutter gain s) (appliedResult e m shutter gain) frame exposure)
  rw [appliedResult]
  unfold judgeReply
  rw [if_neg sumOk, if_neg (by decide : ¬(0x01 : Byte) ≠ 0x01), defined]
  dsimp only
  rw [frameMode]
  simp only [Option.some.injEq]
  split <;> rfl

/-- R94: the values of a TIMED frame whose reply is in TIMED. -/
theorem appliedClose_timed (mode : e.mode = .timed) :
    appliedClose e .timed shutter gain =
      ({ e with
          applied :=
            some
              { value := shutter.toInt, gain := gain.toNat
                residual := max (-127) (min 127 (e.eT - 2 * (shutter.toInt + gain.toNat))) } }, 0) := by
  rw [appliedClose, appliedResult, if_pos mode, closedExposure, successApplied, mode]
  dsimp only
  rw [clampResidual_eq]

/-- R94: the values of a BULB frame whose reply is in BULB. -/
theorem appliedClose_bulb (mode : e.mode = .bulb) :
    appliedClose e .bulb shutter gain =
      ({ e with
          applied :=
            some
              { value := e.ticks, gain := gain.toNat
                residual := max (-127) (min 127 (e.eT - (e.d + 2 * gain.toNat))) } }, 0) := by
  rw [appliedClose, appliedResult, if_pos mode, closedExposure, successApplied, mode]
  dsimp only
  rw [clampResidual_eq]

/-- R90, R97: a reply in the other mode fails the exchange, and its settings do not serve the frame. -/
theorem appliedClose_other {m : CamMode} (other : e.mode ≠ m) :
    appliedClose e m shutter gain =
      ({ e with
          applied :=
            some { value := if e.mode = .timed then e.sReq else e.ticks, gain := e.gReq, residual := 0 } }, 0x0820) := by
  rw [appliedClose, appliedResult, if_neg other]
  refine failExposure_unknown fun c known => ?_
  rw [← Option.some.inj known]
  exact other.symm

theorem linkModeOf_of_not_rejected (accepted : ¬Rejected status mode shutter gain checksum) :
    ∃ m, linkModeOf mode = some m := by
  unfold linkModeOf
  split
  · exact ⟨_, rfl⟩
  next bulb =>
    split
    · exact ⟨_, rfl⟩
    next timed => exact absurd (.inr (.inr ⟨bulb, timed⟩)) accepted

end

/-- Settles O48: an accepted reply closes the exchange by its mode, a rejected one by the last-known settings. -/
theorem replyRecordClosesTheExchange : Obligations.ReplyRecordClosesTheExchange := by
  intro f e status mode shutter gain checksum s frame exposure awaiting assembling
  by_cases rejected : Rejected status mode shutter gain checksum
  · refine ⟨_, _, _, exec_replyRecord awaiting assembling (judgeReply_rejected rejected frame exposure), rfl, rfl, rfl, rfl,
      rfl, rfl, rfl, rfl, rfl, rfl, rfl, rfl, rfl, rfl, fun sum applied => ?_, fun _ =>
      ⟨rfl, fun sh gn timed known => ?_, fun sh gn bulb bounds known => ?_, fun unknown => ?_⟩⟩
    · have undefined : mode ≠ 0x01 ∧ mode ≠ 0x02 := by
        rcases rejected with wrong | refused | undefined
        · exact absurd sum wrong
        · exact absurd applied refused
        · exact undefined
      obtain ⟨notBulb, notTimed⟩ := undefined
      exact ⟨fun timed => absurd timed notTimed, fun bulb => absurd bulb notBulb, fun _ timed => absurd timed notTimed,
        fun _ bulb => absurd bulb notBulb, fun either => either.elim (absurd ·.2 notTimed) (absurd ·.2 notBulb)⟩
    · rw [known, failExposure_timed timed]
      exact ⟨rfl, rfl⟩
    · rw [known, failExposure_bulb bulb bounds]
      exact ⟨rfl, rfl⟩
    · have other : ∀ c, s.cam.settings = some c → c.mode ≠ e.mode := by
        rintro c known
        rcases unknown with none | ⟨sh, gn, ⟨m, bulb⟩ | ⟨m, timed⟩⟩
        · simp [none] at known
        · simp [← Option.some.inj (bulb.symm.trans known), m]
        · simp [← Option.some.inj (timed.symm.trans known), m]
      rw [failExposure_unknown other]
      exact ⟨rfl, rfl⟩
  · obtain ⟨m, defined⟩ := linkModeOf_of_not_rejected rejected
    obtain rfl : status = 0x01 := by_contra fun refused => rejected (.inr (.inl refused))
    have sum : 0xA9 + 0x01 + mode + shutter + gain + checksum = 0 := by_contra fun wrong => rejected (.inl wrong)
    have mode_timed (h : mode = 0x02) : m = .timed := Option.some.inj (defined.symm.trans (h ▸ rfl))
    have mode_bulb (h : mode = 0x01) : m = .bulb := Option.some.inj (defined.symm.trans (h ▸ rfl))
    refine ⟨_, _, _, exec_replyRecord awaiting assembling (judgeReply_applied sum defined frame exposure), rfl, rfl, rfl, rfl,
      rfl, rfl, rfl, rfl, rfl, rfl, rfl, rfl, rfl, rfl,
      fun _ _ => ⟨fun h => ?_, fun h => ?_, fun timed h => ?_, fun bulb h => ?_, fun other => ?_⟩,
      fun isRejected => absurd isRejected rejected⟩
    · rw [mode_timed h]
      rfl
    · rw [mode_bulb h]
      rfl
    · rw [mode_timed h, appliedClose_timed timed]
      exact ⟨rfl, rfl⟩
    · rw [mode_bulb h, appliedClose_bulb bulb]
      exact ⟨rfl, rfl⟩
    · have differs : e.mode ≠ m := by
        rcases other with ⟨bulb, h⟩ | ⟨timed, h⟩
        · simp [bulb, mode_timed h]
        · simp [timed, mode_bulb h]
      rw [appliedClose_other differs]
      exact ⟨rfl, rfl⟩

/-! ## The due time and the shutter hold -/

section
variable {f : Frame} {e : Exposure} {s : State}

theorem exchangeOpen_iff (s : State) : exchangeOpen s = true ↔ s.cam.exchange ≠ .idle := by simp [exchangeOpen]

/-- R99, R111: SHUT is held for the ticks of the record, and for 128 ticks in TIMED. -/
theorem shutterHold_of_exposure (exposure : f.exposure = some e) :
    shutterHold f = if e.mode = .bulb then e.ticks else 128 := by
  unfold shutterHold
  rw [exposure]
  dsimp only
  cases e.mode <;> rfl

/-- R91, R98: what d leaves of a frame whose exchange is still open. -/
def closedLate (f : Frame) (e : Exposure) (s : State) : State :=
  exchangeClosed f (failExposure e s.cam.settings).1 ((failExposure e s.cam.settings).2 ||| flagSetLate) s

theorem closeExchange_late (frame : s.cam.frame = some f) (exposure : f.exposure = some e) :
    closeExchange (.failure .timeout) flagSetLate s = closedLate f e s :=
  closeExchange_eq (.failure .timeout) (by decide) frame exposure

/-- R91, R111: at d the shutter opens on the frame as it stands, or as the close of an exchange still open leaves it, SET_FAIL and
SET_LATE among its flags. -/
theorem dueTime_opens (frame : s.cam.frame = some f) (exposure : f.exposure = some e) :
    ∃ (c : Camera) (r : Ramp) (e' : Exposure) (flags : Half),
      dueTime s =
        openShutter { f with exposure := some e', flags := f.flags ||| flags } { s with cam := c, ramp := r } ∧
      c.exchange = .idle ∧ c.focus = s.cam.focus ∧ (s.cam.exchange = .idle → e' = e ∧ flags = 0) ∧
      (s.cam.exchange ≠ .idle → flags &&& 0x0060 = 0x0060) := by
  by_cases idle : s.cam.exchange = .idle
  · refine ⟨s.cam, s.ramp, e, 0, ?_, idle, rfl, fun _ => ⟨rfl, rfl⟩, (absurd idle ·)⟩
    have closed : ¬exchangeOpen s = true := fun h => (exchangeOpen_iff s).mp h idle
    unfold dueTime
    rw [if_neg closed]
    dsimp only
    rw [frame, flags_or_zero, ← exposure]
  · obtain ⟨-, -, setLate⟩ := failExposure_flags e s.cam.settings
    refine ⟨(closedLate f e s).cam, (closedLate f e s).ramp, (failExposure e s.cam.settings).1, _, ?_, rfl, rfl,
      (absurd · idle), fun _ => setLate⟩
    unfold dueTime
    rw [if_pos ((exchangeOpen_iff s).mpr idle), closeExchange_late frame exposure]
    rfl

end

/-- Settles O49: the window's expiry, d, and the end of the hold. -/
theorem dueTimeOpensAndTheHoldEndsTheExposure : Obligations.DueTimeOpensAndTheHoldEndsTheExposure := by
  intro f e at_ s frame exposure due
  refine ⟨fun isOpen registered => ?_, fun phase registered => ?_, fun exposing registered => ?_⟩
  · have occasion : replyWindowDue s = true := by
      have o : exchangeOpen s = true := (exchangeOpen_iff s).mpr (by rcases isOpen with x | x <;> simp [x])
      rw [replyWindowDue, o, registered]
      exact decide_eq_true due
    obtain ⟨setFail, noSetLate, -⟩ := failExposure_flags e s.cam.settings
    rw [closeExchange_now _ frame exposure]
    refine ⟨?_, rfl, rfl, _, rfl, flags_of_set setFail, flags_of_clear noSetLate⟩
    rw [← closeExchange_now _ frame exposure]
    exact congrArg Host.Outcome.next (event_of_due occasion _ _)
  · have occasion : dueTimeDue s = true := momentDue_of_reached frame (by simpa using phase) registered due
    obtain ⟨c, r, e', flags, opens, idle, focus, unflagged, late⟩ := dueTime_opens frame exposure
    refine ⟨_, _, congrArg Host.Outcome.next ((event_of_due occasion _ _).trans (congrArg (endEvent s) opens)), rfl, rfl, rfl,
      idle, congrArg (· || _) focus, congrArg (fun n => some (s.tb.runCounter + n)) (shutterHold_of_exposure rfl), rfl, rfl,
      rfl, rfl, fun h => ?_, fun h => flags_of_set (late h), rfl, rfl, rfl, rfl, rfl, rfl⟩
    obtain ⟨rfl, rfl⟩ := unflagged h
    exact ⟨rfl, BitVec.or_zero⟩
  · have occasion : shutterHoldDue s = true := by
      rw [shutterHoldDue, exposing, registered]
      exact decide_eq_true due
    exact congrArg Host.Outcome.next (event_of_due occasion _ _)

end Sys2Proof.Machine
end

section
/-! PROOFS. The state after power-on reset meets the laws that every step keeps (R151, R158, R167, R168, R182). -/

namespace Sys2Proof.Machine

/-- Power-on reset leaves the reset state as it is. -/
theorem powerOnReset_reset : powerOnReset State.reset = State.reset := rfl

/-- R168, R182: an empty log of the default size. -/
theorem reset_logLaw : LogLaw State.reset := by
  unfold LogLaw
  decide

/-- R151, R158, R162, R167: the account is full, the levels stand at the top, and the heater is not eligible. -/
theorem reset_powerInv : PowerInv State.reset := by
  refine ⟨?account, ?levels, rfl, nofun⟩
  case account => unfold AccountLaw; decide
  case levels => unfold LevelLaw; decide

/-- Settles O60: the log and the power monitor by their values, the stored laws and the camera laws as power-on reset gives them. -/
theorem resetSatisfiesTheLaws : Obligations.ResetSatisfiesTheLaws :=
  ⟨reset_logLaw, reset_powerInv, powerOnReset_reset ▸ powerOnReset_storedInv State.reset,
    powerOnReset_reset ▸ powerOnReset_camera State.reset⟩

end Sys2Proof.Machine
end

section
/-! PROOFS. The write timeout, the drain and the cooldown, of a run frame and of a test shot (R112, R114, R115, R119, R121,
R122). -/

namespace Sys2Proof.Machine

/-! ## With no camera kept on -/

/-- R155, R158: a frame charge then reaches the sequencer's grid and the power monitor alone. -/
theorem chargeFrame_off {s : State} (h : s.cam.phase ≠ .idleOn) :
    ∃ q p, chargeFrame s = { s with seq := q, pow := p } := by
  obtain ⟨p, charged⟩ : ∃ p, chargeFrame s = settleLevels { s with pow := p } := ⟨_, rfl⟩
  obtain ⟨_, _, _, _, moved, -⟩ := settleLevels_moved (s := { s with pow := p }) h
  exact ⟨_, _, charged.trans moved⟩

/-- R37: a boundary with nothing in hand and no commit pending writes its record, keeps the alerts raised before it, and
leaves the camera and the power monitor. -/
theorem frameBoundary_unmanned (r : Report) {s : State} (u : Unmanned s) (pending : s.prog.commitPending = false) :
    ∃ q a rec,
      frameBoundary r s =
        { s with seq := q, log := storeRecord s.params.logSize rec s.log, line := { s.line with alerts := a } } ∧
      AlertsKept s (frameBoundary r s) ∧
      rec.outcome = r.outcome ∧ rec.cause = r.cause ∧ rec.value = r.value ∧ RecordsFrame s r.frame rec := by
  have blind : SequencerBlind fun t => t.pow = s.pow ∧ AlertsKept s t :=
    ⟨fun _ _ i => i, fun _ _ ⟨pow, kept⟩ => ⟨pow, kept.trans ⟨_, rfl⟩⟩⟩
  obtain ⟨pow, kept⟩ := blind.frameBoundary r u ⟨by rw [boundaryBook_eq], boundaryBook_alerts _ _⟩
  obtain ⟨rec, _, booked, ⟨outcome, cause, value, records, -⟩, -⟩ := boundaryBook_spec r s
  obtain ⟨q, cam, p, a, after, rest⟩ := frameBoundary_runsOn r u.1
  rw [booked] at after rest
  have still : cam = s.cam := rest.resolve_right fun on => u.2 on.1
  obtain rfl : p = s.pow := by rw [after] at pow; exact pow
  refine ⟨q, a, rec, ?_, kept, outcome, cause, value, records⟩
  rw [after, still, resolved_of_not_pending pending]

/-! ## Timeout and drain -/

/-- R112: the camera after a write that timed out. -/
def cooled (s : State) : Camera :=
  { endWriting s.cam with drain := false, phase := .cooldown, cooldownEnd := some (now s + 2048), power := false }

theorem coolDown_spec (s : State) :
    ∃ g b p, coolDown s =
        { s with seq := { s.seq with grid := g, stretchPending := b }, cam := cooled s, pow := p } ∧
      (s.seq.state ≠ .running → g = s.seq.grid ∧ b = s.seq.stretchPending) := by
  obtain ⟨g, b, p, off, parked, -⟩ := setCamPower_moved false
    (s := s.modCam fun c =>
      { endWriting c with drain := false, phase := .cooldown, cooldownEnd := some (now s + 2048) }) (by simp)
  exact ⟨g, b, p, off, parked⟩

/-- R119: the drain's end switches the camera off. -/
theorem endDrain_spec (s : State) :
    ∃ q p, endDrain s =
      { s with seq := q, cam := { endWriting s.cam with drain := false, phase := .off, power := false }, pow := p } := by
  obtain ⟨_, _, p, off, -⟩ := setCamPower_moved false
    (s := s.modCam fun c => { endWriting c with drain := false, phase := .off }) (by simp)
  exact ⟨_, p, off⟩

/-- R112: a frame whose write timed out carries WRITE_TIMEOUT. -/
def timedOut (f : Frame) : Frame := { f with flags := f.flags ||| flagWriteTimeout }

section
variable {at_ : Nat} {f : Frame} {s : State}

theorem exec_writeTimeout (phase : s.cam.phase = .writing) (registered : s.cam.writeTimeoutAt = some at_)
    (due : at_ ≤ s.tb.runCounter) {t : State} (h : writeTimeout s = t) :
    exec .writeTimeout s = .next (endEvent s t) := by
  have occasion : writeTimeoutDue s = true := by
    rw [writeTimeoutDue, phase, registered]
    exact decide_eq_true due
  exact h ▸ congrArg Host.Outcome.next (event_of_due occasion _ _)

theorem exec_cooldownEnd (registered : s.cam.cooldownEnd = some at_) (due : at_ ≤ s.tb.runCounter) {t : State}
    (h : cooldownEnd s = t) : exec .cooldownEnd s = .next (endEvent s t) := by
  have occasion : cooldownDue s = true := by
    rw [cooldownDue, registered]
    exact decide_eq_true due
  exact h ▸ congrArg Host.Outcome.next (event_of_due occasion _ _)

/-- R119: a timeout in a drain only cools the camera down. -/
theorem writeTimeout_of_drain (nothing : s.cam.frame = none) : writeTimeout s = coolDown s := by
  rw [writeTimeout, nothing]

/-- R112, R113: the outcome of a frame whose write timed out is settled with the camera cooling down. -/
theorem writeTimeout_of_frame (frame : s.cam.frame = some f) :
    ∃ g b p,
      writeTimeout s =
        chargeFrame (reportOutcome (writtenOutcome f) .none true (finishedValue f) (timedOut f)
          { s with
            seq := { s.seq with grid := g, stretchPending := b }
            cam := { cooled s with frame := some (timedOut f) }, pow := p }) ∧
      (s.seq.state ≠ .running → g = s.seq.grid ∧ b = s.seq.stretchPending) := by
  obtain ⟨g, b, p, cools, parked⟩ := coolDown_spec { s with cam := { s.cam with frame := some (timedOut f) } }
  refine ⟨g, b, p, ?_, parked⟩
  have settles : writeTimeout s =
      frameOutcome true (timedOut f) (coolDown { s with cam := { s.cam with frame := some (timedOut f) } }) := by
    rw [writeTimeout, frame]
    rfl
  rw [settles, cools]
  rfl

/-- R119: with nothing in hand a completed write ends the drain. -/
theorem settleIfReady_drains (nothing : s.cam.frame = none) (drain : s.cam.drain = true)
    (stage : s.cam.stage = .complete) : settleIfReady s = endDrain s := by
  rw [settleIfReady, nothing]
  exact if_pos (by rw [drain, stage]; rfl)

/-- R112, R119: what completes the write of a drain ends it, and the camera is off. -/
theorem exec_drainEnds {c : Instr} (phase : s.cam.phase = .writing)
    (completes : (c = .dropWatchExpiry ∧ s.cam.stage = .dropWatch at_ ∧ at_ ≤ s.tb.runCounter) ∨
      (c = .readyChange true ∧ s.cam.ready = false ∧ s.cam.stage = .inProgress))
    (nothing : s.cam.frame = none) (drain : s.cam.drain = true) :
    ∃ q p r, exec c s = .next (endEvent s
      { s with
        seq := q, cam := { endWriting s.cam with drain := false, phase := .off, power := false, ready := r }
        pow := p }) := by
  obtain ⟨r, ends⟩ : ∃ r, exec c s = .next (endEvent s (settleIfReady
      { s with cam := { s.cam with ready := r, stage := .complete, writeTimeoutAt := none } })) := by
    rcases completes with ⟨rfl, stage, due⟩ | ⟨rfl, ready, stage⟩
    · exact ⟨s.cam.ready, exec_dropWatchExpiry phase stage due⟩
    · exact ⟨true, exec_readyRise phase ready stage⟩
  obtain ⟨q, p, off⟩ := endDrain_spec
    { s with cam := { s.cam with ready := r, stage := .complete, writeTimeoutAt := none } }
  refine ⟨q, p, r, ends.trans ?_⟩
  rw [settleIfReady_drains, off]
  exacts [rfl, nothing, drain, rfl]

/-! ## The outcome of a frame that timed out -/

/-- R115: after a timeout both outcomes of a write count one fault. -/
theorem updateFaults_timedOut (f : Frame) (s : State) : updateFaults (writtenOutcome f) true s = addFault s := by
  rcases writtenOutcome_or f with e | e <;> rw [e] <;> rfl

/-- R113, R115: a run frame reported after its timeout: one fault, its record, nothing in hand. -/
theorem reportOutcome_timedOut (kind : f.kind = .run) (phase : s.cam.phase ≠ .idleOn)
    (pending : s.prog.commitPending = false) (v : Int) :
    ∃ q p a rec,
      chargeFrame (reportOutcome (writtenOutcome f) .none true v (timedOut f) s) =
        { s with
          seq := q, pow := p, cam := { s.cam with frame := none, faultCount := min (s.cam.faultCount + 1) 15 }
          log := storeRecord s.params.logSize rec s.log, line := { s.line with alerts := a } } ∧
      a &&& 0x0010 ≠ 0 ∧ rec.outcome = writtenOutcome f ∧ RecordsFrame s (timedOut f) rec := by
  obtain ⟨r, boundary, frame, outcome⟩ : ∃ r,
      reportOutcome (writtenOutcome f) .none true v (timedOut f) s =
        frameBoundary r ((addFault s).modCam fun c => { c with frame := none }) ∧
      r.frame = timedOut f ∧ r.outcome = writtenOutcome f := by
    have kind' : (timedOut f).kind = .run := kind
    rw [reportOutcome, kind', updateFaults_timedOut]
    exact ⟨_, rfl, rfl, rfl⟩
  obtain ⟨q, a, rec, after, kept, outcome', -, -, records⟩ :=
    frameBoundary_unmanned r (s := (addFault s).modCam fun c => { c with frame := none }) ⟨rfl, phase⟩ pending
  have alert := kept.raised (old := s.line.alerts) (a := 0x0010) rfl (by decide)
  rw [after] at alert
  obtain ⟨q', p, charged⟩ := chargeFrame_off
    (s := frameBoundary r ((addFault s).modCam fun c => { c with frame := none })) (by rw [after]; exact phase)
  rw [after] at charged
  exact ⟨q', p, a, rec, by rw [boundary, after, charged]; rfl, alert, outcome'.trans outcome, frame ▸ records⟩

/-- R205: a flag joined to a set stands in it, whatever else joins. -/
theorem flag_stands (x flag y : Half) : (x ||| flag ||| y) &&& flag = flag := by
  ext i
  simp only [BitVec.getElem_and, BitVec.getElem_or]
  cases flag[i] <;> simp

/-- R172: the record of a computed frame that timed out has WRITE_TIMEOUT among its flags. -/
theorem RecordsFrame.writeTimeout {r : LogRecord} (h : RecordsFrame s (timedOut f) r) (computed : f.exposure ≠ none) :
    r.flags &&& 0x0100 = 0x0100 := by
  obtain ⟨-, -, -, -, -, -, -, -, -, flags⟩ := h
  obtain ⟨e, exposure⟩ := Option.ne_none_iff_exists'.mp computed
  have exposure' : (timedOut f).exposure = some e := exposure
  rw [flags, exposure', BitVec.or_assoc]
  exact flag_stands f.flags 0x0100 _

end

/-- Settles O51. -/
theorem writeTimeoutCoolsTheCameraDown : Obligations.WriteTimeoutCoolsTheCameraDown := by
  refine fun at_ s due => ⟨fun f phase registered frame kind pending => ?_, fun nothing drain phase =>
    ⟨fun registered => ?_, fun c completes => ?_⟩, fun f phase registered frame kind parked => ?_,
    fun registered => ⟨fun phase => ?_, fun phase => ?_⟩⟩
  · obtain ⟨g, b, p, settles, -⟩ := writeTimeout_of_frame frame
    obtain ⟨q, p', a, rec, reports, alert, outcome, records⟩ := reportOutcome_timedOut (f := f)
      (s := { s with
              seq := { s.seq with grid := g, stretchPending := b }
              cam := { cooled s with frame := some (timedOut f) }, pow := p }) kind (by simp [cooled]) pending
      (finishedValue f)
    obtain ⟨-, number, -⟩ := id records
    exact ⟨_, rec, exec_writeTimeout phase registered due (settles.trans reports), rfl, number,
      outcome.trans (writtenOutcome_eq f), records.writeTimeout, rfl, alert, rfl, rfl, rfl, rfl, rfl, rfl, rfl⟩
  · obtain ⟨g, b, p, cools, -⟩ := coolDown_spec s
    exact ⟨_, exec_writeTimeout phase registered due ((writeTimeout_of_drain nothing).trans cools), rfl, rfl, rfl,
      rfl, rfl, rfl, rfl, rfl⟩
  · obtain ⟨q, p, r, ends⟩ := exec_drainEnds phase (completes.imp_left fun ⟨row, stage⟩ => ⟨row, stage, due⟩) nothing drain
    exact ⟨_, ends, rfl, rfl, rfl, rfl, rfl, rfl, rfl, rfl⟩
  · obtain ⟨g, b, p, settles, still⟩ := writeTimeout_of_frame frame
    obtain ⟨rfl, rfl⟩ := still parked
    have kind' : (timedOut f).kind = .test := kind
    rw [reportOutcome, kind'] at settles
    refine ⟨_, exec_writeTimeout phase registered due settles, ?_, rfl, rfl, rfl, rfl, rfl, rfl, rfl, rfl,
      rfl, rfl, rfl⟩
    rw [← writtenOutcome_eq f]
    rfl
  · exact exec_cooldownEnd registered due (by rw [cooldownEnd, phase]; rfl)
  · have on : cooldownEnd s = setCamPower true (s.modCam fun c => { c with cooldownEnd := none }) := by
      rcases phase with p | p <;> rw [cooldownEnd, p]
    obtain ⟨_, _, p, powered, -⟩ := setCamPower_moved true (s := s.modCam fun c => { c with cooldownEnd := none })
      (by rcases phase with p | p <;> simp [p])
    exact ⟨_, exec_cooldownEnd registered due (on.trans powered), rfl, rfl, rfl, rfl, rfl, rfl⟩

end Sys2Proof.Machine
end

section
/-! PROOFS. A frame handed with its moments, whatever they make of it: what the handing keeps, and the frame that waits, that is
missed, or that is computed (R55, R58, R70, R107 to R110). -/

namespace Sys2Proof.Machine

/-! ## What a handing keeps -/

/-- R44: `t` numbers frames as `s` does, with the same store and the same clocks. -/
def SameNumbers (s t : State) : Prop := framesOf t = framesOf s ∧ t.prog = s.prog ∧ t.tb = s.tb

theorem SameNumbers.refl (s : State) : SameNumbers s s := ⟨rfl, rfl, rfl⟩

theorem SameNumbers.trans {s t u : State} (h : SameNumbers s t) (k : SameNumbers t u) : SameNumbers s u := by
  obtain ⟨frames, prog, clock⟩ := h
  obtain ⟨frames', prog', clock'⟩ := k
  exact ⟨frames'.trans frames, prog'.trans prog, clock'.trans clock⟩

theorem LevelsFormed.numbers {s t : State} (h : LevelsFormed s t) : SameNumbers s t := by
  obtain ⟨_, _, _, _, rfl, -⟩ := h
  exact ⟨rfl, rfl, rfl⟩

theorem setCamPower_numbers (on : Bool) (s : State) : SameNumbers s (setCamPower on s) :=
  (SameNumbers.refl s).trans (setCamPower_formed on s).numbers

theorem requestMetering_numbers (s : State) : SameNumbers s (requestMetering s) := by
  unfold requestMetering
  split <;> exact ⟨rfl, rfl, rfl⟩

theorem handFrame_numbers (f : Frame) (s : State) : SameNumbers s (handFrame f s) := by
  unfold handFrame
  split
  case h_1 => exact setCamPower_numbers true (s.modCam fun c => { c with phase := .waking, frame := some f })
  case h_3 => exact requestMetering_numbers (s.modCam fun c => { c with frame := some f })
  all_goals exact ⟨rfl, rfl, rfl⟩

theorem leaveComputation_numbers (f : Frame) (link : Bool) (e : Exposure) (s : State) :
    SameNumbers s (leaveComputation f link e s) := by
  rw [leaveComputation_eq]
  exact ⟨rfl, rfl, rfl⟩

theorem frameBoundary_numbers (r : Report) {s : State} (u : Unmanned s) (pending : s.prog.commitPending = false) :
    SameNumbers s (frameBoundary r s) := by
  obtain ⟨_, _, _, e, -⟩ := frameBoundary_unmanned r u pending
  exact ⟨framesOf_frameBoundary r u, by rw [e], by rw [e]⟩

theorem reportOutcome_missed_numbers (cause : RecordCause) (v : Int) (f : Frame) {s : State} (phase : s.cam.phase ≠ .idleOn)
    (pending : s.prog.commitPending = false) : SameNumbers s (reportOutcome .missed cause false v f s) := by
  unfold reportOutcome
  split
  case h_1 => exact ⟨rfl, rfl, rfl⟩
  case h_2 =>
    have faults : SameNumbers s ((addFault s).modCam fun c => { c with frame := none }) := ⟨rfl, rfl, rfl⟩
    exact faults.trans (frameBoundary_numbers _ ⟨rfl, phase⟩ pending)

theorem readinessFailure_numbers (f : Frame) {s : State} (pending : s.prog.commitPending = false) :
    SameNumbers s (readinessFailure f s) := by
  obtain ⟨_, _, _, off, -⟩ := setCamPower_moved false (s := s.modCam fun c => { c with phase := unpoweredPhase c })
    (unpoweredPhase_ne_idleOn s.cam)
  rw [readinessFailure, off]
  exact SameNumbers.trans ⟨rfl, rfl, rfl⟩
    (reportOutcome_missed_numbers .cameraWake 0 f (unpoweredPhase_ne_idleOn s.cam) pending)

theorem settingLead_numbers {s : State} (pending : s.prog.commitPending = false) : SameNumbers s (settingLead s) := by
  unfold settingLead
  split
  case h_1 => exact .refl s
  case h_2 f _ =>
    dsimp only
    split
    · split
      · rw [computeRun_eq]
        exact SameNumbers.trans ⟨rfl, rfl, rfl⟩ (leaveComputation_numbers _ _ _ _)
      · rw [computeTest_eq]
        exact SameNumbers.trans ⟨rfl, rfl, rfl⟩ (leaveComputation_numbers _ _ _ _)
    · exact SameNumbers.trans ⟨rfl, rfl, rfl⟩ (readinessFailure_numbers _ pending)

theorem closeExchange_numbers (result : ExchangeResult) (extra : Half) (s : State) :
    SameNumbers s (closeExchange result extra s) := by
  unfold closeExchange
  split
  · exact ⟨rfl, rfl, rfl⟩
  · split
    · exact ⟨rfl, rfl, rfl⟩
    · dsimp only
      split <;> exact ⟨rfl, rfl, rfl⟩

theorem dueTime_numbers (s : State) : SameNumbers s (dueTime s) := by
  have closes : SameNumbers s (if exchangeOpen s = true then closeExchange (.failure .timeout) flagSetLate s else s) := by
    split
    · exact closeExchange_numbers _ _ s
    · exact .refl s
  unfold dueTime
  dsimp only
  split
  · exact closes.trans ⟨rfl, rfl, rfl⟩
  · exact closes

theorem SameNumbers.serveIf {due : State → Bool} {op : State → State} {s t : State} (h : SameNumbers s t)
    (k : SameNumbers t (op t)) : SameNumbers s (serveIf due op t) := by
  unfold Machine.serveIf
  split
  · exact h.trans k
  · exact h

/-- R107: no moment taken at a handing numbers a frame or, with no commit pending, reaches the store. -/
theorem takeMoments_numbers {s : State} (pending : s.prog.commitPending = false) : SameNumbers s (takeMoments s) := by
  have meter : SameNumbers s (serveIf meterLeadDue meterLead s) := (SameNumbers.refl s).serveIf (requestMetering_numbers s)
  have setting := meter.serveIf (due := settingLeadDue) (settingLead_numbers (by rw [meter.2.1]; exact pending))
  have focus := setting.serveIf (due := focusLeadDue) (op := focusLead) ⟨rfl, rfl, rfl⟩
  exact focus.serveIf (dueTime_numbers _)

/-! ## What a handing comes to -/

section
variable {f : Frame} {s : State}

/-- R107, R108: a run frame handed with its meter lead reached. -/
def metering (f : Frame) (b : Bool) (p : Power) (s : State) : State :=
  handed .preparing (opened f) b p (meterRequest .frame .frame (segmentAt s f.slot).rounding s).meter s

/-- R107, R108: with the setting lead ahead a frame waits, in WAKING or for its metering. -/
theorem handFrame_waits (phase : s.cam.phase = .off ∨ s.cam.phase = .cooldown) (kind : f.kind = .run)
    (ahead : reached f.settingAt s = false) :
    ∃ ph f' b p m, takeMoments (handFrame f s) = handed ph f' b p m s ∧
      ((ph = .waking ∧ f' = f ∧ m = s.meter) ∨
        (ph = .preparing ∧ f' = opened f ∧ m = (meterRequest .frame .frame (segmentAt s f.slot).rounding s).meter)) := by
  cases due : reached f.meterAt s with
  | false =>
    obtain ⟨b, p, waits⟩ := takeMoments_waking phase kind due
    exact ⟨_, _, b, p, _, waits, .inl ⟨rfl, rfl, rfl⟩⟩
  | true =>
    obtain ⟨b, p, metered⟩ := takeMoments_metered (.inr ⟨phase, due⟩) kind
    have waits := laterMoments_of_waiting (f := opened f) (s := metering f b p s) (.inr ⟨rfl, rfl, ahead⟩)
    exact ⟨_, _, b, p, _, metered.trans waits, .inr ⟨rfl, rfl, rfl⟩⟩

/-- R58, R109: with the setting lead reached and READY low the frame is MISSED at its handing. -/
theorem handFrame_misses (phase : s.cam.phase = .off ∨ s.cam.phase = .cooldown) (kind : f.kind = .run)
    (unmetered : f.metered = none) (meter : reached f.meterAt s = true) (setting : reached f.settingAt s = true)
    (low : s.cam.ready = false) (pending : s.prog.commitPending = false) :
    ∃ q cam p m a r,
      takeMoments (handFrame f s) =
        { s with
          seq := q, cam := cam, pow := p, meter := m, log := storeRecord s.params.logSize r s.log
          line := { s.line with alerts := a } } ∧
      (cam.frame = none ∧ cam.power = false ∧ cam.faultCount = min (s.cam.faultCount + 1) 15) ∧
      r.outcome = .missed ∧ r.cause = .cameraWake ∧ r.value = 0 ∧
      RecordsFrame s (deadlined (opened f) (lateMetered s)) r := by
  obtain ⟨b, p, metered⟩ := takeMoments_metered (.inr ⟨phase, meter⟩) kind
  have low' : (metering f b p s).cam.ready = false := low
  have unready := settingLead_unready (f := opened f) (m := lateMetered s) (s := metering f b p s) rfl (.inr ⟨unmetered, rfl⟩)
    (by simp [low'])
  obtain ⟨q, cam, p', a, r, fails, camera, -, outcome, cause, value, records, -⟩ := readinessFailure_missed
    (f := deadlined (opened f) (lateMetered s)) (s := withDeadline (opened f) (lateMetered s) (metering f b p s)) kind pending
  have moments := laterMoments_of_setting (f := opened f) (s := metering f b p s) rfl rfl setting
  rw [unready, fails, moments_of_no_frame camera.1] at moments
  exact ⟨q, cam, p', _, a, r, metered.trans moments, camera, outcome, cause, value, records⟩

/-- R58, R70, R93: with the setting lead reached and READY high the frame is computed at its handing, with a late metered value. -/
theorem handFrame_computes (phase : s.cam.phase = .off) (kind : f.kind = .run) (unmetered : f.metered = none)
    (meter : reached f.meterAt s = true) (setting : reached f.settingAt s = true) (ahead : reached f.dueAt s = false)
    (high : s.cam.ready = true) :
    ∃ a b p, takeMoments (handFrame f s) =
      focusTaken (computedFrame (opened f) (metering f b p s)) a (computedLate (opened f) (metering f b p s)) := by
  obtain ⟨b, p, metered⟩ := takeMoments_metered (.inr ⟨.inl phase, meter⟩) kind
  have on : (metering f b p s).cam.power = true := by simp [metering, handed, phase]
  obtain ⟨a, computes⟩ := laterMoments_computes (f := opened f) (s := metering f b p s) rfl kind unmetered rfl setting ahead
    (Bool.and_eq_true_iff.mpr ⟨on, high⟩)
  exact ⟨a, b, p, metered.trans computes⟩

end

end Sys2Proof.Machine
end

section
/-! PROOFS. Leaving HOLD with no second cause: the held segment gone on with, left, or retried, a fresh resume point, and a run
held from ARMED (R28, R136 to R141). -/

namespace Sys2Proof.Machine

/-! ## The examination -/

/-- R136: what an accepted RESUME sets before HOLD is left. -/
def freed (s : State) : State :=
  { s with cam := { s.cam with faultCount := 0 }, seq := { s.seq with walkCount := 0 } }

/-- R128, R135, R136: HOLD left for RUNNING or ARMED. -/
def released (q : SeqState) (s : State) : State :=
  { s with
    cam := { s.cam with faultCount := 0 }
    seq := { s.seq with state := q, walkCount := 0, hold := none, prepRegistered := false, stretchPending := false } }

/-- R136: a RESUME that is accepted in HOLD, with no second cause. -/
structure Resumes (mode : Byte) (h : HoldData) (s : State) : Prop where
  held : s.seq.state = .hold
  record : s.seq.hold = some h
  unlatched : h.latch = none
  normal : s.pow.voltage ≠ .critical
  mode : mode = 0 ∨ mode = 1

/-- R136, R137: the reply's GAP, of the grid that is frozen. -/
theorem gapReply_eq (s : State) :
    gapReply s =
      s.seq.grid.bind fun g => if duesLost s g = 0 then none else some (s.seq.frameCounter % 4294967295 + 1, duesLost s g) := by
  unfold gapReply
  cases s.seq.grid <;> rfl

section
variable {mode : Byte} {retry : Bool} {h : HoldData} {s t : State}

/-- R136, R137: with no second cause HOLD is left, and the reply tells what came of it. -/
theorem resumeRun_of_first (second : secondCause h s = none) :
    resumeRun retry h s =
      ((leaveHold retry h (freed s)).1, .resumed (if h.heldFrom = .armed then none else gapReply s)
        (leaveHold retry h (freed s)).2 ((leaveHold retry h (freed s)).1.seq.grid.map fun g => g.nextDue)) := by
  unfold resumeRun
  dsimp only
  split
  case h_1 again => exact absurd (second.symm.trans again) nofun
  case h_2 => rfl

theorem Resumes.request (p : Resumes mode h s) :
    resumeRequest mode s =
      ((resumeRun (decide (mode = 0)) h s).1, .ok, (resumeRun (decide (mode = 0)) h s).2) := by
  have retries : resumeModeOf mode = some (decide (mode = 0)) := by
    rcases p.mode with m | m <;> rw [m] <;> rfl
  rw [resumeRequest, p.held, p.record]
  dsimp only
  rw [retries]
  exact if_neg fun power => p.normal power.2

/-- R136: an accepted RESUME executed at once. -/
theorem Resumes.exec (p : Resumes mode h s) (l : Listening s) {v : State} {number : Option Nat}
    (leaves : leaveHold (decide (mode = 0)) h (freed (taken (.resume mode) s)) = (v, number)) :
    Machine.exec (.resume mode) s = .next (endEvent s (replied (.resume mode) .ok
      (.resumed (if h.heldFrom = .armed then none else gapReply s) number (v.seq.grid.map fun g => g.nextDue)) v)) := by
  obtain ⟨port, e, -⟩ := taken_frame (.resume mode) s
  have p' : Resumes mode h (taken (.resume mode) s) := by
    rw [e]
    exact ⟨p.held, p.record, p.unlatched, p.normal, p.mode⟩
  have second : secondCause h (taken (.resume mode) s) = none := by
    rw [secondCause, p.unlatched]
    exact if_neg p'.normal
  have gap : gapReply (taken (.resume mode) s) = gapReply s := by
    rw [e]
    rfl
  refine exec_answered rfl l ?_
  rw [answerOf, p'.request, resumeRun_of_first second, leaves, gap]

/-! ## The state that HOLD is left in -/

/-- R137: the GAP moves the numbering, the grid and the log, and a grid stands after it as before. -/
theorem takeGap_frame (h : HoldData) (s : State) :
    ∃ n g d l a,
      takeGap h s =
        { s with
          seq := { s.seq with frameCounter := n, grid := g, lastDue := d }
          log := l, line := { s.line with alerts := a } } ∧
      (s.seq.grid ≠ none → g ≠ none) := by
  unfold takeGap
  split
  case h_1 none => exact ⟨_, _, _, _, _, rfl, id⟩
  case h_2 =>
    dsimp only
    split
    · exact ⟨_, _, _, _, _, rfl, nofun⟩
    · rw [logWrite_eq]
      exact ⟨_, _, _, _, _, rfl, nofun⟩

theorem leaveHold_running (held : h.heldFrom = .running) (stale : h.fresh = false) :
    leaveHold retry h (freed s) = continueHeld retry h (takeGap h (released .running s)) := by
  rw [leaveHold, held]
  dsimp only
  rw [stale]
  rfl

/-- R140: a fresh resume point is walked into with the record's count. -/
theorem leaveHold_fresh {k : Nat} (held : h.heldFrom = .running) (fresh : h.fresh = true) (slot : h.resumeSlot = some k) :
    leaveHold retry h (freed s) = (walkFrom k h.exposureCount (takeGap h (released .running s)), none) := by
  rw [leaveHold, held]
  dsimp only
  rw [fresh, slot]
  rfl

/-- R28, R141: a run held from ARMED begins when its start time has passed, and is ARMED again otherwise. -/
theorem leaveHold_armed {start : Nat} (held : h.heldFrom = .armed) (kept : s.seq.armedStart = some start)
    (normal : s.pow.voltage ≠ .critical) :
    leaveHold retry h (freed s) =
      (if start ≤ s.tb.seconds then begun (released .armed s) else released .armed s, none) := by
  have leaves : leaveHold retry h (freed s) =
      (if armedStartDue (released .armed s) = true then runBegin (released .armed s)
        else powerCauseAtEntry (released .armed s), none) := by
    rw [leaveHold, held]
    rfl
  have due : armedStartDue (released .armed s) = true ↔ start ≤ s.tb.seconds := by
    rw [armedStartDue_iff]
    constructor
    · rintro ⟨-, k, kept', le⟩
      cases kept.symm.trans kept'
      exact le
    · exact fun le => ⟨rfl, start, kept, le⟩
  have stands : powerCauseAtEntry (released .armed s) = released .armed s := if_neg normal
  rw [leaves, runBegin_of_not_critical (s := released .armed s) normal, stands]
  simp only [due]

/-! ## The held segment -/

/-- R138 step 2: the held segment current again, with an entry record. -/
def continued (k : Nat) (e : Entry) (s : State) : State :=
  { s with seq := { s.seq with current := some { slot := k, entry := e } } }

/-- R138: the record of a hold with its segment `k`, whose entry is `e` once it has been evaluated (R40). -/
def HeldEntry (h : HoldData) (k : Nat) (e : Entry) (s : State) : Prop :=
  h.resumeSlot = some k ∧
    ∃ t0 w0 span, h.times = some (t0, w0, span) ∧
      e = takeW0 s.tb (segmentAt s k)
        { runTime := t0, w0 := w0, span := span, exposureCount := h.exposureCount, debounce := h.debounce }

/-- R138, R139: the segment goes on along its grid. -/
def goesOn (s : State) : State := { s with seq := { s.seq with prepRegistered := true } }

section
variable {k : Nat} {e : Entry} {g : Grid}

/-- R138: the evaluation of the held segment decides whether it is left. -/
theorem HeldEntry.evaluated (r : HeldEntry h k e s) :
    ∃ c, (restoreSegment h s).seq.current = some c ∧ c.slot = k ∧ noteEvaluation k (restoreSegment h s) = continued k e s := by
  obtain ⟨slot, t0, w0, span, times, rfl⟩ := r
  have restored : restoreSegment h s = continued k
      { runTime := t0, w0 := w0, span := span, exposureCount := h.exposureCount, debounce := h.debounce } s := by
    rw [restoreSegment, slot, times]
    rfl
  rw [restored]
  exact ⟨_, rfl, rfl, rfl⟩

theorem currentEnds_continued : currentEnds (continued k e s) = terminationTrue s (segmentAt s k) e := rfl

/-- R138: a termination that is true walks on. -/
theorem HeldEntry.ends (r : HeldEntry h k e s) (ends : terminationTrue s (segmentAt s k) e = true) :
    continueHeld retry h s = (walkNext k (continued k e s), none) := by
  obtain ⟨c, current, rfl, evaluated⟩ := r.evaluated
  unfold continueHeld
  dsimp only
  rw [current]
  dsimp only
  rw [evaluated, currentEnds_continued, if_pos ends]

/-- R138: a segment that is not left goes on along its grid, with the retry frame in RETRY. -/
theorem HeldEntry.stays (r : HeldEntry h k e s) (stays : terminationTrue s (segmentAt s k) e = false)
    (grid : s.seq.grid = some g) :
    continueHeld retry h s =
      if (retry && trapped h) = true then
        (retryFrame k g (goesOn (continued k e s)), some (s.seq.frameCounter % 4294967295 + 1))
      else (goesOn (continued k e s), none) := by
  obtain ⟨c, current, rfl, evaluated⟩ := r.evaluated
  unfold continueHeld
  dsimp only
  rw [current]
  dsimp only
  rw [evaluated, currentEnds_continued, if_neg (by simp [stays])]
  split
  case h_1 g' stands =>
    obtain rfl : g' = g := Option.some.inj (stands.symm.trans grid)
    rfl
  case h_2 absent => exact absurd (absent.symm.trans grid) nofun

end

theorem trapped_iff (h : HoldData) :
    trapped h = true ↔ h.trapPhase = some .setting ∨ h.trapPhase = some .waitDue ∨ h.trapPhase = some .exposing := by
  unfold trapped
  split <;> simp_all

end

end Sys2Proof.Machine
end

section
/-! PROOFS. RESUME with no second cause, with its retry frame (R107 to R109, R136 to R141). -/

namespace Sys2Proof.Machine

/-! ## The retry frame -/

/-- R139: the grid past the dues that a retry frame passes: the next due is later than the frame's. -/
def passed (g : Grid) (s : State) : Grid :=
  if g.nextDue ≤ now s + s.params.wakeLead then { g with index := g.index + 1 } else g

/-- R139: the retry frame, due a wake lead from now. -/
def retryShot (k : Nat) (g : Grid) (s : State) : Frame :=
  newFrame .run (s.seq.frameCounter % 4294967295 + 1) (now s + s.params.wakeLead) k g.iEff g.factor s.params

/-- R44, R139: the state that the retry frame is handed in, numbered and with its battery sample asked for (entry 34). -/
def retryReady (g : Grid) (s : State) : State :=
  { sampled s with
    seq :=
      { s.seq with
        frameCounter := s.seq.frameCounter % 4294967295 + 1, walkCount := 0, lastDue := some (now s + s.params.wakeLead)
        grid := some (passed g s), prepRegistered := true } }

section
variable {k : Nat} {g : Grid} {s : State}

theorem retryFrame_eq (grid : s.seq.grid = some g) (registered : s.seq.prepRegistered = true) :
    retryFrame k g s = takeMoments (handFrame (retryShot k g s) (retryReady g s)) := by
  obtain ⟨u, hu, next⟩ : ∃ u, u = (if g.nextDue ≤ now s + s.params.wakeLead then nextIndex s else s) ∧
      u = { s with seq := { s.seq with grid := some (passed g s), prepRegistered := true } } := by
    refine ⟨_, rfl, ?_⟩
    unfold passed
    split
    · simp only [nextIndex, State.modSeq, grid, Option.map_some]
    · rw [← grid, ← registered]
  rw [retryFrame, ← hu, next]
  rfl

/-- R44, R139: whatever becomes of the retry frame in the event, it has its number. -/
theorem retryFrame_numbers (grid : s.seq.grid = some g) (registered : s.seq.prepRegistered = true)
    (pending : s.prog.commitPending = false) :
    (retryFrame k g s).seq.frameCounter = s.seq.frameCounter % 4294967295 + 1 ∧ (retryFrame k g s).prog = s.prog ∧
      (retryFrame k g s).tb = s.tb := by
  have hands := handFrame_numbers (retryShot k g s) (retryReady g s)
  obtain ⟨frames, prog, clock⟩ := hands.trans (takeMoments_numbers (by rw [hands.2.1]; exact pending))
  rw [retryFrame_eq grid registered]
  exact ⟨congrArg Prod.fst frames, prog, clock⟩

theorem retryShot_settingAt (k : Nat) (g : Grid) (s : State) :
    reached (retryShot k g s).settingAt (retryReady g s) = decide (s.params.wakeLead ≤ s.params.settingLead) :=
  (reached_lead (now s + s.params.wakeLead) s.params.settingLead _).trans (decide_eq_decide.mpr Nat.add_le_add_iff_left)

/-- R106, R107: a setting lead reached at the handing has its meter lead reached. -/
theorem retryShot_meterAt (k : Nat) (g : Grid) {s : State} (equal : s.params.settingLead = s.params.wakeLead) :
    reached (retryShot k g s).meterAt (retryReady g s) = true := by
  refine (reached_lead (now s + s.params.wakeLead) (effectiveMeterLead s.params) _).trans (decide_eq_true ?_)
  exact Nat.add_le_add_left (equal ▸ (Nat.le_add_right _ 64).trans (Nat.le_max_right _ _)) s.tb.runCounter

theorem retryShot_dueAt (k : Nat) (g : Grid) {s : State} (ahead : 0 < s.params.wakeLead) :
    reached (retryShot k g s).dueAt (retryReady g s) = false :=
  decide_eq_false (Nat.not_le.mpr (Nat.lt_add_of_pos_right ahead))

/-- R107, R108, R139: with the setting lead ahead the retry frame waits. -/
theorem retryFrame_waits (grid : s.seq.grid = some g) (registered : s.seq.prepRegistered = true)
    (phase : s.cam.phase = .off ∨ s.cam.phase = .cooldown) (ahead : s.params.settingLead < s.params.wakeLead) :
    ∃ ph f b p m, retryFrame k g s = handed ph f b p m (retryReady g s) ∧ (ph = .waking ∨ ph = .preparing) ∧
      (f = retryShot k g s ∨ f = opened (retryShot k g s)) ∧ queueSlot m .battery ≠ .empty := by
  obtain ⟨ph, f, b, p, m, waits, taken⟩ := handFrame_waits (f := retryShot k g s) (s := retryReady g s) phase rfl
    ((retryShot_settingAt k g s).trans (decide_eq_false (Nat.not_le.mpr ahead)))
  have battery := queueSlot_meterRequest_ne_empty .battery .power .down s
  refine ⟨ph, f, b, p, m, (retryFrame_eq grid registered).trans waits, ?_⟩
  rcases taken with ⟨waking, shot, rfl⟩ | ⟨preparing, shot, rfl⟩
  · exact ⟨.inl waking, .inl shot, battery⟩
  · exact ⟨.inr preparing, .inr shot, battery⟩

/-- R109, R139: with the two leads equal and READY low the retry frame is MISSED in the event. -/
theorem retryFrame_misses (grid : s.seq.grid = some g) (registered : s.seq.prepRegistered = true)
    (phase : s.cam.phase = .off ∨ s.cam.phase = .cooldown) (equal : s.params.settingLead = s.params.wakeLead)
    (low : s.cam.ready = false) (pending : s.prog.commitPending = false) :
    ∃ q cam p m a r,
      retryFrame k g s =
        { s with
          seq := q, cam := cam, pow := p, meter := m, log := storeRecord s.params.logSize r s.log
          line := { s.line with alerts := a } } ∧
      (cam.frame = none ∧ cam.power = false ∧ cam.faultCount = min (s.cam.faultCount + 1) 15) ∧
      r.outcome = .missed ∧ r.cause = .cameraWake ∧ r.value = 0 ∧
      r.frame = s.seq.frameCounter % 4294967295 + 1 ∧ r.segment = k ∧ r.eT = none := by
  obtain ⟨q, cam, p, m, a, r, misses, camera, outcome, cause, value, -, frame, segment, -, eT, -⟩ :=
    handFrame_misses (f := retryShot k g s) (s := retryReady g s) phase rfl rfl (retryShot_meterAt k g equal)
      ((retryShot_settingAt k g s).trans (decide_eq_true equal.ge)) low pending
  exact ⟨q, cam, p, m, a, r, (retryFrame_eq grid registered).trans misses, camera, outcome, cause, value, frame, segment, eT⟩

/-- R58, R70, R139: with the two leads equal and READY high it is computed in the event. -/
theorem retryFrame_computes (grid : s.seq.grid = some g) (registered : s.seq.prepRegistered = true)
    (phase : s.cam.phase = .off) (equal : s.params.settingLead = s.params.wakeLead) (ahead : 0 < s.params.wakeLead)
    (high : s.cam.ready = true) :
    ∃ a b p u, u = metering (retryShot k g s) b p (retryReady g s) ∧
      retryFrame k g s = focusTaken (computedFrame (opened (retryShot k g s)) u) a
        (computedLate (opened (retryShot k g s)) u) := by
  obtain ⟨a, b, p, computes⟩ := handFrame_computes (f := retryShot k g s) (s := retryReady g s) phase rfl rfl
    (retryShot_meterAt k g equal) ((retryShot_settingAt k g s).trans (decide_eq_true equal.ge))
    (retryShot_dueAt k g ahead) high
  exact ⟨a, b, p, _, rfl, (retryFrame_eq grid registered).trans computes⟩

end

/-- R139: nothing is retried with SKIP, or with no frame trapped. -/
theorem not_retried {mode : Byte} {h : HoldData}
    (skips : mode = 1 ∨
      (h.trapPhase ≠ some .setting ∧ h.trapPhase ≠ some .waitDue ∧ h.trapPhase ≠ some .exposing)) :
    (decide (mode = 0) && trapped h) = false := by
  rw [Bool.and_eq_false_iff, ← Bool.not_eq_true (trapped h), trapped_iff]
  rcases skips with rfl | ⟨setting, waiting, exposing⟩
  · exact .inl rfl
  · exact .inr (not_or.mpr ⟨setting, not_or.mpr ⟨waiting, exposing⟩⟩)

theorem retried {mode : Byte} {h : HoldData} (retry : mode = 0)
    (caught : h.trapPhase = some .setting ∨ h.trapPhase = some .waitDue ∨ h.trapPhase = some .exposing) :
    (decide (mode = 0) && trapped h) = true := by
  rw [decide_eq_true retry, (trapped_iff h).mpr caught, Bool.and_self]

/-- Settles O27: the held segment left, gone on with, or retried by where the setting lead stands; a fresh point; and a run held
from ARMED. -/
theorem resumeSkipContinuesTheHeldSegment : Obligations.ResumeSkipContinuesTheHeldSegment := by
  intro mode h s t gap l held record unlatched normal modes ht hgap
  have p : Resumes mode h s := ⟨held, record, unlatched, normal, modes⟩
  have exec {v : State} {number : Option Nat} := p.exec l (v := v) (number := number)
  rw [gapReply_eq, ← hgap] at exec
  obtain ⟨port, e, -⟩ := taken_frame (.resume mode) s
  rw [e] at ht exec ⊢
  obtain ⟨n, grid', last, log, alerts, taken, stands⟩ := takeGap_frame h (released .running { s with line := port })
  change t = takeGap h (released .running { s with line := port }) at ht
  refine ⟨fun g k t0 w0 span e u running stale grid slot times he hu => ?_, fun k running fresh slot => ?_,
    fun start v armed kept hv => ?_⟩
  · have leaves := leaveHold_running (retry := decide (mode = 0)) (s := { s with line := port }) running stale
    rw [← ht] at leaves
    rw [if_neg (by simp [running]), leaves] at exec
    rw [taken] at ht
    obtain ⟨g₀, rfl⟩ := Option.ne_none_iff_exists'.mp (stands (by simp [released, grid]))
    have entry : HeldEntry h k e t := by
      subst ht
      exact ⟨slot, t0, w0, span, times, he⟩
    have termination : terminationTrue t (segmentAt t k) e = terminationTrue s (segmentAt s k) e := by
      subst ht
      rfl
    have stood : t.seq.grid = some g₀ := by rw [ht]
    change u = continued k e t at hu
    rw [← termination]
    refine ⟨fun ends => hu ▸ exec (entry.ends ends), fun stays skips => ?_,
      fun g' stays retries caught grid' pending => ?_⟩
    · have goes := entry.stays (retry := decide (mode = 0)) stays stood
      rw [not_retried skips, if_neg nofun] at goes
      exact hu ▸ exec goes
    · have goes := entry.stays (retry := decide (mode = 0)) stays grid'
      rw [retried retries caught, if_pos rfl, ← hu] at goes
      have ready : (goesOn u).seq.grid = some g' ∧ (goesOn u).prog = s.prog := by
        subst hu
        refine ⟨grid', ?_⟩
        rw [ht]
        rfl
      obtain ⟨counter, prog, clock⟩ := retryFrame_numbers (k := k) ready.1 rfl (by rw [ready.2]; exact pending)
      subst hu ht
      refine ⟨_, exec goes, counter, congrArg ProgramStore.active (prog.trans ready.2), clock, fun phase ahead => ?_,
        fun phase equal low => ?_, fun phase equal ahead high => ?_⟩
      · obtain ⟨ph, f, b, pw, m, waits, waking, shot, battery⟩ := retryFrame_waits (k := k) ready.1 rfl phase ahead
        rw [waits]
        refine ⟨f, _, rfl, rfl, rfl, rfl, rfl, rfl, ?_, rfl, rfl, rfl, rfl, ?_⟩
        · rcases shot with rfl | rfl <;> rfl
        · rcases shot with rfl | rfl <;> exact ⟨rfl, rfl, rfl, rfl, rfl, rfl, waking, battery, rfl, rfl, rfl⟩
      · obtain ⟨q, cam, pw, m, a, r, misses, ⟨hand, power, faults⟩, outcome, cause, value, number, segment, eT⟩ :=
          retryFrame_misses (k := k) ready.1 rfl phase equal low pending
        rw [misses]
        exact ⟨r, rfl, outcome, cause, number, segment, eT, value, hand, power, faults, rfl, rfl⟩
      · obtain ⟨a, b, pw, u, hu, computes⟩ := retryFrame_computes (k := k) ready.1 rfl phase equal ahead high
        rw [computes, hu]
        have on : (s.cam.power || decide (s.cam.phase = .off)) = true := by simp [phase]
        exact ⟨_, rfl, rfl, rfl, rfl, rfl, rfl, rfl, nofun, rfl, on, rfl, rfl, rfl, rfl⟩
  · rw [if_neg (by simp [running])] at exec
    exact ht ▸ exec (leaveHold_fresh running fresh slot)
  · subst hv
    have leaves := leaveHold_armed (retry := decide (mode = 0)) (s := { s with line := port }) armed kept normal
    rw [if_pos armed] at exec
    refine ⟨fun ahead => ?_, fun past => ?_⟩
    · rw [if_neg (Nat.not_le.mpr ahead)] at leaves
      exact exec leaves
    · rw [if_pos past] at leaves
      exact exec leaves

end Sys2Proof.Machine
end

section
/-! PROOFS. A parked run's requests: HOLD and the latch, RESUME's examination and the re-entry, the resume record, and the
critical-recovery timer with its auto-resume (R125, R132 to R134, R136, R142, R143). -/

namespace Sys2Proof.Machine

/-! ## HOLD -/

section
variable {h : HoldData} {s : State}

/-- R125: HOLD is refused where no run stands, a STOP is pending, or the run ends. -/
theorem holdRequest_refused
    (q : s.seq.state = .idle ∨ s.seq.state = .ended ∨ (s.seq.state = .running ∧ s.seq.stopPending = true) ∨
      (s.seq.state = .holding ∧ s.seq.ending = true)) : holdRequest s = refuse .badState s := by
  rcases q with q | q | ⟨q, mark⟩ | ⟨q, mark⟩ <;> rw [holdRequest, q]
  · exact if_pos mark
  · exact if_pos ⟨rfl, mark⟩

/-- R125, R126: from ARMED, or RUNNING with no STOP pending, HOLD is hold entry. -/
theorem holdRequest_enters (q : s.seq.state = .armed ∨ (s.seq.state = .running ∧ s.seq.stopPending = false)) :
    holdRequest s =
      (holdEntry .host .current s, .ok, .holdState (holdEntry .host .current s).seq.state false) := by
  rw [← causeArises_enters q]
  rcases q with q | ⟨q, go⟩ <;> rw [holdRequest, q]
  exact if_neg (by simp [go])

/-- R125, R133: a parked run's latch decides what HOLD does. -/
theorem holdRequest_parked (record : s.seq.hold = some h)
    (q : s.seq.state = .hold ∨ (s.seq.state = .holding ∧ s.seq.ending = false)) :
    holdRequest s =
      if h.latch = none then (offerLatch .host s, .ok, .holdState s.seq.state true) else refuse .busy s := by
  have stays : ¬(s.seq.state = .holding ∧ s.seq.ending = true) := by
    rintro ⟨holding, ending⟩
    rcases q with q | ⟨-, go⟩
    · exact absurd (q.symm.trans holding) nofun
    · exact absurd (go.symm.trans ending) nofun
  have empty : (latched s).isNone = true ↔ h.latch = none := by simp [latched, record]
  simp only [← empty]
  rcases q with q | ⟨q, -⟩ <;> rw [q] at stays <;> rw [holdRequest, q] <;> exact if_neg stays

/-- R133: HOST in an empty latch sets the host-requested mark. -/
theorem offerLatch_host (record : s.seq.hold = some h) (empty : h.latch = none) :
    offerLatch .host s =
      { s with seq := { s.seq with hold := some { h with latch := some .host, hostRequested := true } } } := by
  simp [offerLatch, State.modSeq, record, latchCause, empty]

end

/-- Settles O23: HOLD refused, taken as hold entry, or offered to the latch, by the sequencer's state. -/
theorem holdRepliesByState : Obligations.HoldRepliesByState := by
  refine fun s l => ⟨fun q => ?_, fun q => ?_, fun h record q => ?_⟩
  · exact exec_answered rfl l (congrArg some (holdRequest_refused (by rwa [taken_seq])))
  · exact exec_answered rfl l (congrArg some (holdRequest_enters (by rwa [taken_seq])))
  · have record' : (taken .hold s).seq.hold = some h := by rwa [taken_seq]
    have parked := holdRequest_parked record' (by rwa [taken_seq])
    refine ⟨fun empty => ?_, fun full => ?_⟩
    · rw [if_pos empty, offerLatch_host record' empty, taken_seq] at parked
      exact exec_answered rfl l (congrArg some parked)
    · rw [if_neg full] at parked
      exact exec_answered rfl l (congrArg some parked)

/-! ## RESUME -/

section
variable {mode : Byte} {h : HoldData} {s : State}

theorem resumeRequest_elsewhere (mode : Byte) (q : s.seq.state ≠ .hold) : resumeRequest mode s = refuse .badState s := by
  unfold resumeRequest
  split
  case h_1 held _ => exact absurd held q
  case h_2 => rfl

/-- R136: RETRY is mode 0 and SKIP mode 1. -/
theorem resumeModeOf_eq (mode : Byte) :
    resumeModeOf mode = if mode.toNat < 2 then some (decide (mode = 0)) else none := by
  have zero : mode = 0 ↔ mode.toNat = 0 := BitVec.toNat_inj (y := 0).symm
  have one : mode = 1 ↔ mode.toNat = 1 := BitVec.toNat_inj (y := 1).symm
  simp only [resumeModeOf, zero, one]
  split
  · simp [*]
  · split
    · simp [*]
    · rw [if_neg (by omega)]

theorem resumeRequest_badMode (q : s.seq.state = .hold) (record : s.seq.hold = some h) (other : 2 ≤ mode.toNat) :
    resumeRequest mode s = (s, .badField, .field 1) := by
  rw [resumeRequest, q, record]
  dsimp only
  rw [resumeModeOf_eq, if_neg (Nat.not_lt.mpr other)]

/-- R136: with a mode of the two, a hold for POWER is not left while the voltage is CRITICAL. -/
theorem resumeRequest_examined (q : s.seq.state = .hold) (record : s.seq.hold = some h) (known : mode.toNat < 2) :
    resumeRequest mode s =
      if h.cause = .power ∧ s.pow.voltage = .critical then refuse .badState s
      else ((resumeRun (decide (mode = 0)) h s).1, .ok, (resumeRun (decide (mode = 0)) h s).2) := by
  rw [resumeRequest, q, record]
  dsimp only
  rw [resumeModeOf_eq, if_pos known]

/-- R136: the latched cause, or POWER while the voltage is CRITICAL. -/
theorem secondCause_eq_some {cause : HoldCause}
    (again : h.latch = some cause ∨ (h.latch = none ∧ s.pow.voltage = .critical ∧ cause = .power)) :
    secondCause h s = some cause := by
  rcases again with latch | ⟨empty, critical, rfl⟩
  · rw [secondCause, latch]
  · rw [secondCause, empty]
    exact if_pos critical

/-- R136: a second cause makes the re-entry, whichever the mode. -/
theorem resumeRun_of_second {cause : HoldCause} (retry : Bool) (second : secondCause h s = some cause) :
    resumeRun retry h s =
      ({ freed s with
          seq := { (freed s).seq with hold := some (reentryRecord cause h s) }
          line := { s.line with alerts := s.line.alerts ||| 0x0001 } }, .reentered cause) := by
  unfold resumeRun
  dsimp only
  split
  case h_1 again =>
    cases second.symm.trans again
    rfl
  case h_2 first => exact absurd (second.symm.trans first) nofun

end

/-- Settles O25: RESUME's examination in its order, then the second cause. -/
theorem resumeIsExaminedAndMayReenter : Obligations.ResumeIsExaminedAndMayReenter := by
  intro mode s l
  have exec {t : State} {status : Status} {data : ReplyData}
      (answer : resumeRequest mode (taken (.resume mode) s) = (t, status, data)) :=
    exec_answered (c := .resume mode) rfl l (congrArg some answer)
  obtain ⟨port, e, -, alerts, -⟩ := taken_frame (.resume mode) s
  rw [e] at exec ⊢
  refine ⟨fun q => exec (resumeRequest_elsewhere mode q), fun h q record => ⟨fun other => ?_, fun known power critical => ?_,
    fun cause known free again => ?_⟩⟩
  · exact exec (resumeRequest_badMode q record other)
  · have refused := resumeRequest_examined (s := { s with line := port }) q record known
    rw [if_pos ⟨power, critical⟩] at refused
    exact exec refused
  · have accepted := resumeRequest_examined (s := { s with line := port }) q record known
    have second : secondCause h { s with line := port } = some cause := secondCause_eq_some again
    rw [if_neg free, resumeRun_of_second _ second] at accepted
    rw [← alerts]
    exact exec accepted

/-! ## The resume record -/

section
variable {h : HoldData} {s : State}

theorem readResumeRecord_elsewhere (q : s.seq.state ≠ .hold) : readResumeRecord s = refuse .badState s := by
  unfold readResumeRecord
  split
  case h_1 held _ => exact absurd held q
  case h_2 => rfl

/-- R130, R132: the record is read with the frozen grid, and the last due belongs to it. -/
theorem readResumeRecord_held (q : s.seq.state = .hold) (record : s.seq.hold = some h) :
    readResumeRecord s =
      (s, .ok, .resumeRecord
        { data := h, anchor := s.seq.grid.map fun g => g.anchor, nextIndex := s.seq.grid.map fun g => g.index
          lastDue := if s.seq.grid = none then none else s.seq.lastDue
          gridInterval := s.seq.grid.map fun g => g.interval }) := by
  rw [readResumeRecord, q, record]
  cases s.seq.grid <;> rfl

theorem setResumePoint_elsewhere (slot : Byte) (count : Half) (q : s.seq.state ≠ .hold) :
    setResumePoint slot count s = refuse .badState s := by
  unfold setResumePoint
  split
  case h_1 held _ => exact absurd held q
  case h_2 => rfl

/-- R134: a run held from ARMED has no resume point. -/
theorem setResumePoint_armed (slot : Byte) (count : Half) (q : s.seq.state = .hold) (record : s.seq.hold = some h)
    (armed : h.heldFrom = .armed) : setResumePoint slot count s = refuse .badState s := by
  rw [setResumePoint, q, record]
  exact if_pos armed

theorem setResumePoint_emptySlot {slot : Byte} (count : Half) (q : s.seq.state = .hold) (record : s.seq.hold = some h)
    (running : h.heldFrom = .running) (empty : slotOf (activeBank s.prog) slot.toNat = none) :
    setResumePoint slot count s = (s, .badField, .field 0) := by
  rw [setResumePoint, q, record]
  dsimp only
  rw [if_neg (by simp [running]), empty]

/-- R134 step 4: only a FRAMES segment limits the count, and only by lowering it. -/
theorem resumeCount_eq_iff (g : Segment) (count : Nat) :
    resumeCount g count = count ↔ ¬(g.term = .frames ∧ g.termArg.toNat - 1 < count) := by
  unfold resumeCount
  split
  case isTrue frames => simp [frames]
  case isFalse other => simp [other]

/-- R134: the resume point is a fresh entry of the slot, with the count. -/
theorem setResumePoint_accepted {slot : Byte} {g : Segment} (count : Half) (q : s.seq.state = .hold)
    (record : s.seq.hold = some h) (running : h.heldFrom = .running)
    (defined : slotOf (activeBank s.prog) slot.toNat = some g) :
    setResumePoint slot count s =
      ({ s with
          seq :=
            { s.seq with
              hold :=
                some
                  { h with
                    resumeSlot := some slot.toNat, fresh := true, debounce := 0, times := none
                    exposureCount := resumeCount g count.toNat } } },
        if g.term = .frames ∧ g.termArg.toNat - 1 < count.toNat then .clamped else .ok, .empty) := by
  rw [setResumePoint, q, record]
  dsimp only
  rw [if_neg (by simp [running]), defined]
  simp only [resumeCount_eq_iff, ite_not, State.modSeq]

end

/-- Settles O28: both requests outside HOLD, the record read, and the point of resume examined and set. -/
theorem resumeRecordIsReadAndRewritten : Obligations.ResumeRecordIsReadAndRewritten := by
  intro slot count s l
  have reads {t : State} {status : Status} {data : ReplyData}
      (answer : readResumeRecord (taken .readResumeRecord s) = (t, status, data)) :=
    exec_answered (c := .readResumeRecord) rfl l (congrArg some answer)
  have sets {t : State} {status : Status} {data : ReplyData}
      (answer : setResumePoint slot count (taken (.setResumePoint slot count) s) = (t, status, data)) :=
    exec_answered (c := .setResumePoint slot count) rfl l (congrArg some answer)
  obtain ⟨port, e, -⟩ := taken_frame .readResumeRecord s
  obtain ⟨port', e', -⟩ := taken_frame (.setResumePoint slot count) s
  rw [e] at reads ⊢
  rw [e'] at sets ⊢
  refine ⟨fun q => ⟨reads (readResumeRecord_elsewhere q), sets (setResumePoint_elsewhere slot count q)⟩,
    fun h q record => ⟨reads (readResumeRecord_held q record), fun armed => ?_, fun running empty => ?_,
      fun g running defined => ?_⟩⟩
  · exact sets (setResumePoint_armed slot count q record armed)
  · exact sets (setResumePoint_emptySlot count q record running empty)
  · exact sets (setResumePoint_accepted count q record running defined)

/-! ## The critical-recovery timer -/

section
variable {start : Nat} {h : HoldData} {s : State}

/-- R142: in a hold for POWER, a sample at the recovery threshold starts a stopped timer, and one below stops it. -/
theorem recoverySample_power (v : Nat) (q : s.seq.state = .hold) (record : s.seq.hold = some h) (power : h.cause = .power) :
    recoverySample v s =
      { s with
        pow :=
          { s.pow with
            recovery :=
              if s.params.vCrit + s.params.hysteresis ≤ v then some (s.pow.recovery.getD s.tb.runCounter) else none } } := by
  rw [recoverySample, q, record]
  dsimp only
  rw [if_pos power]
  by_cases recovered : s.params.vCrit + s.params.hysteresis ≤ v
  · rw [if_pos recovered, if_pos recovered]
    cases timer : s.pow.recovery
    · rfl
    · exact congrArg (fun r => { s with pow := { s.pow with recovery := r } }) timer
  · rw [if_neg recovered, if_neg recovered]
    rfl

/-- R142: a hold for another cause leaves the timer. -/
theorem recoverySample_other (v : Nat) (record : s.seq.hold = some h) (other : h.cause ≠ .power) : recoverySample v s = s := by
  unfold recoverySample
  split
  case h_1 record' =>
    cases record.symm.trans record'
    exact if_neg other
  case h_2 => rfl

theorem recoveryDue_iff (timer : s.pow.recovery = some start) :
    recoveryDue s = true ↔ start + 614400 ≤ s.tb.runCounter := by
  rw [recoveryDue, timer]
  exact decide_eq_true_iff

/-- R142, R143: the timer stops, and the three conditions decide auto-resume. -/
theorem recoveryExpiry_held (q : s.seq.state = .hold) (record : s.seq.hold = some h) :
    recoveryExpiry s =
      if s.params.autoResume = 1 ∧ h.cause = .power ∧ h.hostRequested = false then
        raiseAlert .resumed (resumeRun false h { s with pow := { s.pow with recovery := none } }).1
      else { s with pow := { s.pow with recovery := none } } := by
  simp only [recoveryExpiry, State.modPow_seq, q, record]
  rfl

end

/-- Settles O52: the expiry at its time and before it, and the samples that start and stop the timer. -/
theorem recoveryTimerOffersAutoResume : Obligations.RecoveryTimerOffersAutoResume := by
  refine ⟨fun start h s timer q record => ⟨fun due => ?_, fun early => ?_, fun v power recovered => ?_, fun v power low => ?_⟩,
    fun v h s stopped q record power => ⟨fun recovered => ?_, fun low => ?_⟩, fun v h s record elsewhere => ?_⟩
  · have expires : exec .recoveryTimerExpiry s = .next (endEvent s (recoveryExpiry s)) :=
      congrArg Host.Outcome.next (event_of_due ((recoveryDue_iff timer).mpr due) _ _)
    rw [expires, recoveryExpiry_held q record]
    exact ⟨fun auto power unasked => by rw [if_pos ⟨auto, power, unasked⟩], fun declined => by rw [if_neg declined]⟩
  · have waits : recoveryDue s = false :=
      Bool.eq_false_iff.mpr fun due => absurd ((recoveryDue_iff timer).mp due) (Nat.not_le.mpr early)
    exact congrArg Host.Outcome.next (event_of_not_due waits _)
  · rw [recoverySample_power v q record power, if_pos recovered, timer, Option.getD_some, ← timer]
  · rw [recoverySample_power v q record power, if_neg (Nat.not_le.mpr low)]
  · rw [recoverySample_power v q record power, if_pos recovered, stopped, Option.getD_none]
  · rw [recoverySample_power v q record power, if_neg (Nat.not_le.mpr low), ← stopped]
  · exact elsewhere.elim (recoverySample_elsewhere v) (recoverySample_other v record)

end Sys2Proof.Machine
end

section
/-! PROOFS. The GAP of a resume: the dues of the frozen grid that were lost while parked, and the record that numbers them
(R137, R174). -/

namespace Sys2Proof.Machine

/-! ## The dues -/

/-- R137: the dues first, first + step, … before a bound are the first `duesBefore` of them. -/
theorem lt_duesBefore_iff {step : Nat} (positive : 1 ≤ step) (first bound k : Nat) :
    first + k * step < bound ↔ k < duesBefore first step bound := by
  unfold duesBefore
  split
  case isTrue ahead =>
    rw [Nat.lt_succ_iff, Nat.le_div_iff_mul_le positive]
    omega
  case isFalse past => omega

section
variable {h : HoldData} {g : Grid} {s : State}

/-- R137: the first due that a resume finds on a grid: the anchor when no frame of the grid was numbered, otherwise the one
after the last due. -/
def firstContinuation (s : State) (g : Grid) (last : Nat) : Nat :=
  if g.index = 0 then g.anchor else last + g.interval * stretch s

/-- R137: the base of the continuation grid, with its first due. -/
theorem continuationBase_due {last : Nat} (counted : g.index = 0 ∨ s.seq.lastDue = some last) :
    (continuationBase g s.seq.lastDue).1 + (continuationBase g s.seq.lastDue).2 * (g.interval * stretch s) =
      firstContinuation s g last := by
  unfold continuationBase firstContinuation
  by_cases first : g.index = 0
  · simp [first]
  · have due : s.seq.lastDue = some last := counted.resolve_left first
    simp [first, due]

/-- R137: the dues lost are those that lie before now + wake lead. -/
theorem duesLost_eq {last : Nat} (counted : g.index = 0 ∨ s.seq.lastDue = some last) :
    duesLost s g =
      duesBefore (firstContinuation s g last) (g.interval * stretch s) (s.tb.runCounter + s.params.wakeLead) := by
  rw [← continuationBase_due counted]
  exact Nat.add_sub_cancel_left ..

theorem continuationGrid_index (s : State) (g : Grid) :
    (continuationGrid s g).index = (continuationBase g s.seq.lastDue).2 + duesLost s g :=
  congrArg ((continuationBase g s.seq.lastDue).2 + ·) (Nat.add_sub_cancel_left ..).symm

/-- R137: the continuation grid's next due lies past the dues lost. -/
theorem continuationGrid_nextDue {last : Nat} (counted : g.index = 0 ∨ s.seq.lastDue = some last) :
    (continuationGrid s g).nextDue = firstContinuation s g last + duesLost s g * (g.interval * stretch s) := by
  rw [← continuationBase_due counted, Grid.nextDue, continuationGrid_index, Nat.add_mul, ← Nat.add_assoc]
  rfl

/-- R137: the last of the dues lost. -/
theorem continuationGrid_lastDue {last : Nat} (counted : g.index = 0 ∨ s.seq.lastDue = some last) (lost : 1 ≤ duesLost s g) :
    (continuationGrid s g).anchor + ((continuationGrid s g).index - 1) * (continuationGrid s g).iEff =
      firstContinuation s g last + (duesLost s g - 1) * (g.interval * stretch s) := by
  rw [← continuationBase_due counted, continuationGrid_index, Nat.add_sub_assoc lost, Nat.add_mul, ← Nat.add_assoc]
  rfl

/-! ## The GAP -/

/-- R137: with no due lost, the continuation grid alone is laid. -/
theorem takeGap_of_none_lost (h : HoldData) (grid : s.seq.grid = some g) (nothing : duesLost s g = 0) :
    takeGap h s = { s with seq := { s.seq with grid := some (continuationGrid s g) } } := by
  simp only [takeGap, grid, nothing, if_true, State.modSeq]
  rfl

/-- R137, R176: the dues lost are numbered and the GAP record is written. -/
theorem takeGap_of_lost (h : HoldData) (grid : s.seq.grid = some g) (lost : 1 ≤ duesLost s g) :
    takeGap h s =
      { s with
        seq :=
          { s.seq with
            frameCounter := advanceFrames s.seq.frameCounter (duesLost s g), grid := some (continuationGrid s g)
            lastDue :=
              some
                ((continuationGrid s g).anchor + ((continuationGrid s g).index - 1) * (continuationGrid s g).iEff) }
        log := storeRecord s.params.logSize (gapRecord s h (duesLost s g)) s.log
        line := { s.line with alerts := loggedAlerts (gapRecord s h (duesLost s g)) s } } := by
  have some_lost : duesLost s g ≠ 0 := Nat.one_le_iff_ne_zero.mp lost
  simp only [takeGap, grid, some_lost, if_false, logWrite_eq, State.modSeq]

/-- R174, R205: the GAP record, its flags spelled. -/
theorem gapRecord_eq (s : State) (h : HoldData) (c : Nat) :
    gapRecord s h c =
      { outcome := .gap, run := s.seq.runNumber, frame := s.seq.frameCounter % 4294967295 + 1
        segment := h.causeSlot.getD 0
        flags :=
          (if h.entryInvalid = true then (0x0400 : Half) else 0) ||| (if 1 < stretch s then (0x0200 : Half) else 0)
        cause := .gap h.cause, dueSeconds := h.entrySeconds, dueTicks := h.entryTicks, lAvg := none, eT := none
        mode := none, value := c, gain := none, residual := none, level := s.pow.budgetLevel } := by
  have stretched : flagIf (1 < stretch s) flagStretched = if 1 < stretch s then 0x0200 else 0 := by
    simp [flagIf, flagStretched]
  rw [gapRecord, stretched]
  rfl

theorem advanceFrames_of_pos {c : Nat} (counter : Nat) (positive : 1 ≤ c) :
    advanceFrames counter c = (counter + c - 1) % 4294967295 + 1 :=
  if_neg (Nat.one_le_iff_ne_zero.mp positive)

end

/-- Settles O26: the dues counted, the grid laid past them, and their numbers and record when any was lost. -/
theorem resumeNumbersTheLostDuesInOneGap : Obligations.ResumeNumbersTheLostDuesInOneGap := by
  intro h g last s grid interval factor counted step first c t
  have dues (k : Nat) : first + k * step < s.tb.runCounter + s.params.wakeLead ↔ k < c := by
    have count : c = duesBefore first step (s.tb.runCounter + s.params.wakeLead) := duesLost_eq counted
    rw [count]
    exact lt_duesBefore_iff (Nat.mul_pos interval factor) first _ k
  rcases Nat.eq_zero_or_pos c with nothing | lost
  · have laid : t = _ := takeGap_of_none_lost h grid nothing
    rw [laid]
    exact ⟨dues, ⟨_, rfl, continuationGrid_nextDue counted, rfl⟩, fun _ => ⟨rfl, rfl, rfl⟩,
      fun lost => absurd nothing (Nat.one_le_iff_ne_zero.mp lost)⟩
  · have taken : t = _ := takeGap_of_lost h grid lost
    rw [taken, gapRecord_eq]
    exact ⟨dues, ⟨_, rfl, continuationGrid_nextDue counted, rfl⟩, fun nothing => absurd nothing (Nat.one_le_iff_ne_zero.mp lost),
      fun _ => ⟨congrArg some (continuationGrid_lastDue counted lost), advanceFrames_of_pos _ lost, rfl⟩⟩

end Sys2Proof.Machine
end

section
/-! PROOFS. The voltage state after a battery sample, and the heater's dither (R148, R150, R164). -/

namespace Sys2Proof.Machine

/-! ## The voltage state -/

/-- Settles O44: row by row, the critical threshold lying below the low one (R147). -/
theorem voltageStateFollowsTheTable : Obligations.VoltageStateFollowsTheTable := by
  intro p q v below
  refine ⟨fun stands => ⟨fun normal => ?_, fun low above => ?_, fun low mark => ?_, fun critical => ?_⟩, fun marked => ?_⟩
  · simp only [nextVoltage, stands, normal, Bool.false_eq_true, if_false]
    split_ifs <;> simp <;> omega
  · simp only [nextVoltage, stands, low, above, Bool.false_eq_true, if_false]
  · simp only [nextVoltage, stands, low, mark, Bool.false_eq_true, if_false, if_true]
  · simp only [nextVoltage, stands, critical, Bool.false_eq_true, if_false]
  · simp only [nextVoltage, marked, if_true]
    split_ifs <;> simp <;> omega

/-! ## The heater's dither -/

/-- R164: a period takes the eighth of the duty, and one slot more where its reversed index lies below the rest. -/
theorem onSlots_eq (d j : Nat) : onSlots d j = d / 8 + if rev3 j < d % 8 then 1 else 0 := by
  unfold onSlots
  split <;> rfl

/-- R164: of any eight consecutive periods, as many have a reversed index below a rest as the rest counts. -/
theorem sum_rev3_lt : ∀ r < 8, ∀ i < 8,
    ((List.range 8).map fun k => if rev3 ((i + k) % 8) < r then 1 else 0).sum = r := by decide

/-- Settles O54: eight times the eighth of the duty, and the rest spread by the reversed index. -/
theorem heaterDutyIsExactOverEightPeriods : Obligations.HeaterDutyIsExactOverEightPeriods := by
  intro d j small
  have spread := sum_rev3_lt (d % 8) (Nat.mod_lt d (by decide)) (j % 8) (Nat.mod_lt j (by decide))
  simp only [Nat.mod_add_mod] at spread
  simp only [onSlots_eq, List.sum_map_add, spread, List.map_const', List.length_range, List.sum_replicate]
  refine ⟨by rw [smul_eq_mul]; omega, ?_⟩
  split <;> omega

end Sys2Proof.Machine
end

section
/-! PROOFS. SET_CHARGE and GET_POWER: the levels formed after an accrual of the event, whatever the camera (R117, R153, R157 to R159,
R166). -/

namespace Sys2Proof.Machine

/-! ## The levels after an accrual of the event -/

/-- R153: an accrual has been taken now, and the draw is that of the consumers that are on. -/
structure JustAccrued (s : State) : Prop where
  last : s.pow.lastAccrual = now s
  remainder : s.pow.remainder < 1024000
  draw : s.pow.draw = drawOf s.params s.pow.core s.cam.power s.pow.heat

/-- R117, R158, R159: what the levels formed after an accrual of the event come to: the charge level that the account gives, the
budget level, and the draw of the camera as it is left, in hand, kept on or switched off. -/
def Relevelled (s t : State) : Prop :=
  ∃ q c, t =
      { s with
        seq := q
        cam := c
        pow :=
          { s.pow with
            draw := drawOf s.params s.pow.core c.power s.pow.heat
            chargeLevel := nextChargeLevel s.pow.chargeLevel (perMille s)
            budgetLevel := budgetOf s.pow.voltage (nextChargeLevel s.pow.chargeLevel (perMille s)) } } ∧
    AtRest s.cam c

section
variable {s t u : State}

theorem accrue_justAccrued (s : State) : JustAccrued (accrue s) := ⟨rfl, Nat.mod_lt _ (by decide), rfl⟩

/-- R153: a second accrual in one event forms the draw alone. -/
theorem accrue_again (last : s.pow.lastAccrual = now s) (remainder : s.pow.remainder < 1024000) :
    accrue s = { s with pow := { s.pow with draw := drawOf s.params s.pow.core s.cam.power s.pow.heat } } := by
  obtain ⟨account, kept⟩ := accrue_again_account s last remainder
  change { s with pow := { s.pow with
    account := (accrue s).pow.account, remainder := (accrue s).pow.remainder, lastAccrual := now s
    draw := drawOf s.params s.pow.core s.cam.power s.pow.heat } } = _
  rw [account, kept, ← last]

theorem JustAccrued.relevelled (j : JustAccrued s) (h : Relevelled s t) : JustAccrued t := by
  obtain ⟨q, c, rfl, -⟩ := h
  exact ⟨j.last, j.remainder, rfl⟩

/-- R158: formed again at the same account, the levels stay. -/
theorem Relevelled.trans (h : Relevelled s t) (k : Relevelled t u) : Relevelled s u := by
  obtain ⟨q, c, rfl, rest⟩ := h
  obtain ⟨q', c', rfl, rest'⟩ := k
  refine ⟨q', c', ?_, rest.trans rest'⟩
  have again := nextChargeLevel_idem s.pow.chargeLevel (perMille s)
  simp only [perMille] at again ⊢
  rw [again]

/-- R117: after an accrual of the event the keep-on test reaches the camera and the draw alone. -/
theorem JustAccrued.keepOnOff (j : JustAccrued s) :
    ∃ c, keepOnOff s =
        { s with cam := c, pow := { s.pow with draw := drawOf s.params s.pow.core c.power s.pow.heat } } ∧
      AtRest s.cam c := by
  unfold Machine.keepOnOff
  split
  case isTrue on =>
    exact ⟨_, accrue_again (s := s.modCam fun c => { c with phase := .off, power := false }) j.last j.remainder,
      .inr ⟨on.1, rfl⟩⟩
  case isFalse => exact ⟨s.cam, by rw [← j.draw], .inl rfl⟩

theorem JustAccrued.formLevels (j : JustAccrued s) : Relevelled s (formLevels s) := by
  have tests (q : Sequencer) : Relevelled s (Machine.keepOnOff { levelled s with seq := q }) := by
    have j' : JustAccrued { levelled s with seq := q } := ⟨j.last, j.remainder, j.draw⟩
    obtain ⟨c, e, rest⟩ := j'.keepOnOff
    exact ⟨q, c, e, rest⟩
  rw [formLevels_eq]
  split
  · exact tests s.seq
  · obtain ⟨q, e⟩ := stretchChanged_frame (levelled s)
    rw [e]
    exact tests q

theorem JustAccrued.settleLevels (j : JustAccrued s) : Relevelled s (settleLevels s) :=
  j.formLevels.trans (j.relevelled j.formLevels).formLevels

/-- R153: an accrual, with its levels. -/
theorem accrual_relevelled (s : State) : Relevelled (accrue s) (accrual s) := (accrue_justAccrued s).settleLevels

end

/-! ## SET_CHARGE -/

/-- R157: the account that SET_CHARGE sets. -/
def chargeOf (charge : Half) (p : Params) : Nat := min (charge.toNat * 3600) (accountTop p)

/-- R157: after its accrual SET_CHARGE sets the account, before it forms the levels. -/
def recharged (charge : Half) (s : State) : State :=
  (accrual s).modPow fun p => { p with account := chargeOf charge s.params, remainder := 0 }

theorem setCharge_state (charge : Half) (s : State) : (setCharge charge s).1 = settleLevels (recharged charge s) := by
  simp only [setCharge, recharged, chargeOf]

theorem setCharge_status (charge : Half) (s : State) :
    (setCharge charge s).2.1 = if charge.toNat * 3600 ≤ s.params.capacity * 3600 then .ok else .clamped :=
  (ite_not _ _ _).symm.trans (if_congr Nat.not_lt rfl rfl)

/-- R153, R157 to R159: the account set and the levels formed twice, for the account of the accrual and for the one set. -/
theorem setCharge_eq (charge : Half) (s : State) :
    ∃ q c cl, (setCharge charge s).1 =
        { s with
          seq := q
          cam := c
          pow :=
            { s.pow with
              account := chargeOf charge s.params, remainder := 0, lastAccrual := now s
              draw := drawOf s.params s.pow.core c.power s.pow.heat
              chargeLevel := cl, budgetLevel := budgetOf s.pow.voltage cl } } ∧
      cl = nextChargeLevel (nextChargeLevel s.pow.chargeLevel (perMille (accrue s)))
        (chargeOf charge s.params * 1000 / accountTop s.params) ∧
      AtRest s.cam c := by
  obtain ⟨q, c, accrued, rest⟩ := accrual_relevelled s
  have set : recharged charge s = _ := congrArg (State.modPow · _) accrued
  have j : JustAccrued (recharged charge s) := by
    rw [set]
    exact ⟨rfl, Nat.zero_lt_succ _, rfl⟩
  obtain ⟨q', c', formed, rest'⟩ := j.settleLevels
  rw [setCharge_state, formed]
  rw [set] at rest' ⊢
  exact ⟨q', c', _, rfl, rfl, rest.trans rest'⟩

theorem setCharge_data (charge : Half) (s : State) :
    (setCharge charge s).2.2 = .account (min (charge.toNat * 3600) (s.params.capacity * 3600)) := by
  obtain ⟨q, c, cl, set, -⟩ := setCharge_eq charge s
  have account : (setCharge charge s).2.2 = .account (setCharge charge s).1.pow.account := by simp only [setCharge]
  rw [account, set]
  rfl

theorem answerOf_setCharge (charge : Half) (s : State) :
    answerOf (.setCharge charge) s = some ((setCharge charge s).1,
      if charge.toNat * 3600 ≤ s.params.capacity * 3600 then .ok else .clamped,
      .account (min (charge.toNat * 3600) (s.params.capacity * 3600))) := by
  rw [← setCharge_status, ← setCharge_data]
  simp only [answerOf, Prod.mk.eta]

/-! ## Thresholds -/

/-- R158: the level between the fall and the rise thresholds that pm reaches. -/
theorem nextChargeLevel_rows {level pm : Nat} (h : level ≤ 3) :
    (pm < 100 → nextChargeLevel level pm = 0) ∧
    (100 ≤ pm → pm < 120 → nextChargeLevel level pm = min level 1) ∧
    (120 ≤ pm → pm < 250 → nextChargeLevel level pm = 1) ∧
    (250 ≤ pm → pm < 270 → nextChargeLevel level pm = max 1 (min level 2)) ∧
    (270 ≤ pm → pm < 500 → nextChargeLevel level pm = 2) ∧
    (500 ≤ pm → pm < 520 → nextChargeLevel level pm = max 2 level) ∧
    (520 ≤ pm → nextChargeLevel level pm = 3) := by
  unfold nextChargeLevel upLevel downLevel
  grind

/-- Settles O32: the account set by its two formings of the levels, their thresholds, and what GET_POWER lists. -/
theorem chargeIsSetAndPowerIsRead : Obligations.ChargeIsSetAndPowerIsRead := by
  refine ⟨fun charge s l => ?_, fun level pm => nextChargeLevel_rows, fun v level => ⟨rfl, fun low => ?_⟩, fun s l => ?_⟩
  · obtain ⟨port, e, -⟩ := taken_frame (.setCharge charge) s
    obtain ⟨q, c, cl, set, level, rest⟩ := setCharge_eq charge (taken (.setCharge charge) s)
    have answer := answerOf_setCharge charge (taken (.setCharge charge) s)
    rw [taken_params] at answer
    refine ⟨_, exec_answered rfl l answer, ?_⟩
    rw [set]
    rw [e] at level rest ⊢
    refine ⟨rfl, rfl, rfl, rfl, ?_, rfl, rfl, fun p => rest.eq_of_ne p, rfl, rfl, rfl, rfl, rfl, rfl⟩
    rintro old new rfl rfl
    exact level
  · cases v with
    | normal => exact absurd rfl low
    | low | critical => rfl
  · refine exec_answered rfl l ?_
    obtain ⟨port, e, -⟩ := taken_frame .getPower s
    rw [e]
    rfl

end Sys2Proof.Machine
end

section
/-! PROOFS. The parameter table: ids, ranges and defaults, GET_PARAM, and what storing a value changes (R106, R111, R147, R181, R196,
R198). -/

namespace Sys2Proof.Machine

/-! ## The table -/

/-- R196: an id outside the table names no parameter. -/
theorem paramOf_eq_none {id : Byte}
    (h : id ∉ [(0x01 : Byte), 0x02, 0x03, 0x04, 0x05, 0x06, 0x10, 0x11, 0x12, 0x13, 0x14, 0x15, 0x16, 0x17, 0x20, 0x30, 0x31,
        0x32, 0x33, 0x34, 0x35, 0x36, 0x37, 0x38, 0x39, 0x3A, 0x3B, 0x3C, 0x3D, 0x3E, 0x3F, 0x40, 0x50, 0x60]) :
    paramOf id = none := by
  unfold paramOf
  simp only [List.mem_cons, List.not_mem_nil, or_false, not_or] at h
  simp only [h, if_false]

theorem meterLeadInRange_eq (settingLead : Nat) (v : Int) :
    meterLeadInRange settingLead v = max (max 64 (min 1024 v)) ((settingLead : Int) + 64) := by
  unfold meterLeadInRange
  rw [clampInt_eq (by decide)]
  split <;> omega

theorem syncWindowInRange_eq (v : Int) : syncWindowInRange v = if v ≤ 0 then 0 else max 16 (min 1024 v) := by
  rw [syncWindowInRange, clampInt_eq (by decide)]

theorem vCritInRange_eq (vLow : Nat) (v : Int) :
    vCritInRange vLow v = min (max 5000 (min 15900 v)) ((vLow : Int) - 100) := by
  unfold vCritInRange
  rw [clampInt_eq (by decide)]
  split <;> omega

theorem logSizeInRange_rows (v : Int) :
    (v ≤ 64 → logSizeInRange v = 64) ∧ (64 < v → v ≤ 128 → logSizeInRange v = 128) ∧
    (128 < v → v ≤ 256 → logSizeInRange v = 256) ∧ (256 < v → logSizeInRange v = 512) := by
  unfold logSizeInRange
  split_ifs <;> omega

/-! ## Storing -/

section
variable {p : Params} {q q' : ParamId} {v : Int}

/-- R196: a value of its range is read back as it was stored. -/
theorem paramValue_storeParam_same (m : Half) (stored : q ≠ .alertMask) (r : ParamRange p v q) :
    paramValue (storeParam p q v) m q = v := by
  cases q <;> simp only [ParamRange] at r <;> simp only [storeParam, paramValue]
  case alertMask => exact absurd rfl stored
  all_goals omega

/-- R147: storing a parameter leaves every other, but that V_low may lower V_crit. -/
theorem paramValue_storeParam_of_ne (m : Half) (other : q' ≠ q) (lowers : ¬(q = .vLow ∧ q' = .vCrit)) :
    paramValue (storeParam p q v) m q' = paramValue p m q' := by
  -- Two ids have fields of their own; on the diagonal, and for V_crit under V_low, a premise fails.
  cases q <;> cases q' <;> first | exact absurd rfl other | rfl | exact absurd ⟨rfl, rfl⟩ lowers

theorem paramValue_vCrit_of_vLow (m : Half) (r : ParamRange p v .vLow) :
    paramValue (storeParam p .vLow v) m .vCrit = if v - 100 < p.vCrit then v - 100 else p.vCrit := by
  simp only [ParamRange] at r
  simp only [storeParam, paramValue]
  split <;> omega

end

/-- Settles O8: the table's rows, the ids outside it, the resets, GET_PARAM, and what storing under an id changes. -/
theorem parametersHaveTheTablesRangesAndDefaults : Obligations.ParametersHaveTheTablesRangesAndDefaults := by
  refine ⟨?_, fun id => paramOf_eq_none, ⟨rfl, rfl, fun p v => meterLeadInRange_eq _ _⟩,
    ⟨rfl, rfl, fun p v => syncWindowInRange_eq _⟩, ⟨rfl, rfl, fun p v => vCritInRange_eq _ _⟩,
    ⟨rfl, rfl, fun p v => logSizeInRange_rows _⟩, ⟨rfl, rfl, fun p v => rfl⟩, fun p m => ?_, fun s => ?_, fun id s l => ?_,
    fun p m q v stored l => ?_, fun p m v => ?_⟩
  · iterate 29
      refine List.forall_mem_cons.mpr ⟨⟨rfl, rfl, fun p v => clampInt_eq (by decide) v.toInt⟩, ?_⟩
    exact nofun
  · repeat' constructor
  · refine ⟨⟨powerOnReset s, rfl, rfl, rfl⟩, ⟨pinReset s, rfl, rfl⟩, event (breakDue s) lineBreak s, rfl, ?_⟩
    unfold event
    split
    · obtain ⟨-, -, -, -, params, -⟩ := endEvent_same s (lineBreak s)
      exact params
    · rfl
  · have port (q : ParamId) : paramValue (taken (.getParam id) s).params (taken (.getParam id) s).line.mask q =
        paramValue s.params s.line.mask q := by
      obtain ⟨_, e, mask, -⟩ := taken_frame (.getParam id) s
      rw [e, ← mask]
    refine ⟨fun q h => exec_answered rfl l ?_, fun h => exec_answered rfl l ?_⟩
    · simp only [answerOf, getParam, h, port]
    · simp only [answerOf, getParam, h]
  · exact ⟨paramValue_storeParam_same m stored (paramInRange_range l q v),
      fun q' other lowers => paramValue_storeParam_of_ne m other lowers⟩
  · exact paramValue_vCrit_of_vLow m (clampInt_mem (by decide) v.toInt)

end Sys2Proof.Machine
end

section
/-! PROOFS. The laws of the account, the levels and HEAT through accruals, the forming of the levels and the end of an event
(R117, R151 to R153, R158 to R162). -/

namespace Sys2Proof.Machine

/-! ## The laws within an event -/

/-- R151, R153, R162: the account's law, and HEAT on only in an eligible heater: kept by every operation, at every moment of an
event. -/
def ChargeLaw (s : State) : Prop := AccountLaw s ∧ (s.pow.heat = true → s.pow.eligible = true)

/-- What an operation keeps of the power monitor: the laws of the account and of HEAT, and levels that stand (R158, R159). -/
structure PowerKept (s t : State) : Prop where
  charge : ChargeLaw s → ChargeLaw t
  levels : LevelLaw s → LevelLaw t

/-- What the two laws speak of. -/
def powerOf (s : State) : Power × Params := (s.pow, s.params)

section
variable {s t u : State}

theorem LevelLaw.of_same (same : powerOf t = powerOf s) (l : LevelLaw s) : LevelLaw t := by
  obtain ⟨pow, params⟩ := Prod.ext_iff.mp same
  change t.pow = s.pow at pow
  change t.params = s.params at params
  unfold LevelLaw perMille
  rwa [pow, params]

theorem PowerKept.refl (s : State) : PowerKept s s := ⟨id, id⟩

theorem PowerKept.trans (h : PowerKept s t) (k : PowerKept t u) : PowerKept s u :=
  ⟨k.charge ∘ h.charge, k.levels ∘ h.levels⟩

theorem PowerKept.of_same (same : powerOf t = powerOf s) : PowerKept s t := by
  refine ⟨fun l => ?_, .of_same same⟩
  obtain ⟨pow, params⟩ := Prod.ext_iff.mp same
  change t.pow = s.pow at pow
  change t.params = s.params at params
  unfold ChargeLaw AccountLaw
  rwa [pow, params]

/-- What follows outside the power monitor. -/
theorem PowerKept.then_same (h : PowerKept s t) (same : powerOf u = powerOf t) : PowerKept s u := h.trans (.of_same same)

/-- What precedes outside the power monitor. -/
theorem PowerKept.from_same (h : PowerKept t u) (same : powerOf t = powerOf s) : PowerKept s u := (of_same same).trans h

/-! ## Levels -/

/-- R158, R159: levels formed stand. -/
theorem levelled_levels (s : State) : LevelLaw (levelled s) := ⟨nextChargeLevel_idem _ _, rfl⟩

/-- R158, R159: levels that stand are formed as they are. -/
theorem levelled_of_levels (l : LevelLaw s) : levelled s = s := by
  obtain ⟨charge, budget⟩ := l
  simp only [levelled, State.modPow, charge, ← budget]

/-- R117: forming the levels is a keep-on test of a state whose levels stand. -/
theorem formLevels_tests (s : State) : ∃ u, LevelLaw u ∧ u.cam = s.cam ∧ formLevels s = keepOnOff u := by
  rw [formLevels_eq]
  split
  · exact ⟨_, levelled_levels s, rfl, rfl⟩
  · obtain ⟨q, e⟩ := stretchChanged_frame (levelled s)
    exact ⟨{ levelled s with seq := q }, levelled_levels s, rfl, by rw [e]⟩

/-- R117, R158: after the second forming the levels stand, whether the first switched a camera off or not. -/
theorem settleLevels_levels (s : State) : LevelLaw (settleLevels s) := by
  obtain ⟨u, stand, -, first⟩ := formLevels_tests s
  rw [settleLevels, first]
  by_cases off : u.cam.phase = .idleOn ∧ keepOnHolds u = false
  · have phase : (keepOnOff u).cam.phase ≠ .idleOn := by
      rw [keepOnOff, if_pos off]
      nofun
    obtain ⟨v, stand', cam, second⟩ := formLevels_tests (keepOnOff u)
    rwa [second, keepOnOff_of_not_idleOn (by rwa [cam])]
  · have kept : keepOnOff u = u := if_neg off
    rwa [kept, formLevels_eq, levelled_of_levels stand, if_pos rfl, kept]

/-! ## Accruals -/

/-- R153: a charge taken lowers the account or leaves it, and leaves less than one mA·s. -/
theorem takeCharge_charge (amount : Nat) (l : ChargeLaw s) : ChargeLaw (s.modPow (takeCharge amount)) := by
  obtain ⟨⟨account, -⟩, heat⟩ := l
  exact ⟨⟨(Nat.sub_le _ _).trans account, Nat.mod_lt _ (by decide)⟩, heat⟩

theorem accrue_charge (l : ChargeLaw s) : ChargeLaw (accrue s) :=
  takeCharge_charge (s.pow.draw * (now s - s.pow.lastAccrual)) l

theorem keepOnOff_charge (l : ChargeLaw s) : ChargeLaw (keepOnOff s) := by
  unfold keepOnOff
  split
  · exact accrue_charge (s := s.modCam _) l
  · exact l

theorem formLevels_charge (l : ChargeLaw s) : ChargeLaw (formLevels s) := by
  rw [formLevels_eq]
  refine keepOnOff_charge ?_
  split
  · exact l
  · obtain ⟨q, e⟩ := stretchChanged_frame (levelled s)
    rw [e]
    exact l

theorem settleLevels_charge (l : ChargeLaw s) : ChargeLaw (settleLevels s) := formLevels_charge (formLevels_charge l)

theorem accrual_charge (l : ChargeLaw s) : ChargeLaw (accrual s) := settleLevels_charge (accrue_charge l)

/-- Whatever is followed by the forming of the levels. -/
theorem PowerKept.settled (charge : ChargeLaw s → ChargeLaw t) : PowerKept s (settleLevels t) :=
  ⟨fun l => settleLevels_charge (charge l), fun _ => settleLevels_levels t⟩

theorem PowerKept.accrual (charge : ChargeLaw s → ChargeLaw t) : PowerKept s (accrual t) :=
  .settled fun l => accrue_charge (charge l)

theorem setCamPower_powerKept (on : Bool) (s : State) : PowerKept s (setCamPower on s) := by
  unfold setCamPower
  split
  · exact .refl s
  · exact .accrual (t := s.modCam _) id

theorem setCore_powerKept (c : CoreState) (s : State) : PowerKept s (setCore c s) := by
  unfold setCore
  split
  · exact .refl s
  · exact .accrual (t := s.modPow _) id

/-- R162, R164: HEAT may be switched off, or on in an eligible heater. -/
theorem setHeat_powerKept {on : Bool} (account : ChargeLaw s → AccountLaw t) (levels : LevelLaw s → LevelLaw t)
    (may : on = true → t.pow.eligible = true) : PowerKept s (setHeat on t) := by
  unfold setHeat
  split
  case isTrue same => exact ⟨fun l => ⟨account l, same ▸ may⟩, levels⟩
  case isFalse => exact .accrual (t := t.modPow _) fun l => ⟨account l, may⟩

theorem chargeFrame_powerKept (s : State) : PowerKept s (chargeFrame s) :=
  .settled (takeCharge_charge (s.params.frameCharge * 1024000))

theorem keepOnTest_powerKept (s : State) : PowerKept s (keepOnTest s) := by
  unfold keepOnTest
  split
  · exact .settled keepOnOff_charge
  · exact .refl s

end

/-! ## The end of an event -/

theorem holdCheck_powerKept (s : State) : PowerKept s (holdCheck s) := by
  obtain ⟨q, a, e⟩ := holdCheck_frame s
  rw [e]
  exact .of_same rfl

theorem heaterLost_powerKept (s : State) : PowerKept s (heaterLost s) :=
  setHeat_powerKept (t := s.modPow _) (fun l => l.1) id nofun

/-- R162: an eligible heater may have HEAT on. -/
theorem heaterGained_powerKept (s : State) : PowerKept s (heaterGained s) :=
  ⟨fun l => ⟨l.1, fun _ => rfl⟩, id⟩

theorem heaterForm_powerKept (s : State) : PowerKept s (heaterForm s) := by
  rcases heaterForm_cases s with ⟨e, -⟩ | ⟨e, -⟩ | ⟨e, -⟩ <;> rw [e]
  · exact .refl s
  · exact heaterGained_powerKept s
  · exact heaterLost_powerKept s

theorem serveMeter_powerKept (s0 s : State) : PowerKept s (serveMeter s0 s) := by
  obtain ⟨m, n, e⟩ := serveMeter_frame s0 s
  rw [e]
  exact .of_same rfl

theorem coreForm_powerKept (s0 s : State) : PowerKept s (coreForm s0 s) := by
  unfold coreForm
  split
  · exact .refl s
  · exact setCore_powerKept _ s

theorem heaterDrop_powerKept (s : State) : PowerKept s (heaterDrop s) := by
  rcases heaterDrop_cases s with ⟨e, -⟩ | ⟨e, -⟩ <;> rw [e]
  · exact .refl s
  · exact heaterLost_powerKept s

theorem recoveryForm_powerKept (s : State) : PowerKept s (recoveryForm s) := by
  rw [recoveryForm_eq]
  exact ⟨id, id⟩

theorem endEvent_powerKept (s0 s : State) : PowerKept s (endEvent s0 s) :=
  (keepOnTest_powerKept s).trans <| (holdCheck_powerKept _).trans <| (heaterForm_powerKept _).trans <|
    (serveMeter_powerKept s0 _).trans <| (coreForm_powerKept s0 _).trans <| (heaterDrop_powerKept _).trans <|
    (recoveryForm_powerKept _).then_same rfl

/-- R162: every event ends with the heater's eligibility as its conditions give it. -/
theorem endEvent_powerInv (s0 : State) {s t : State} (l : PowerInv s) (k : PowerKept s t) : PowerInv (endEvent s0 t) := by
  obtain ⟨account, levels, -, heat⟩ := l
  have stand := k.levels levels
  have kept := endEvent_powerKept s0 t
  obtain ⟨account', heat'⟩ := kept.charge (k.charge ⟨account, heat⟩)
  exact ⟨account', kept.levels stand, endEvent_eligible s0 stand, heat'⟩

end Sys2Proof.Machine
end

section
/-! PROOFS. The power laws through hold entry, the walk, the frame boundary, the camera controller and the sequencer
(R24 to R46, R106 to R143). -/

namespace Sys2Proof.Machine

/-! ## Hold, walk and boundary -/

theorem powerOf_logWrite (r : LogRecord) (s : State) : powerOf (logWrite r s) = powerOf s := by
  rw [logWrite_eq]
  rfl

theorem powerOf_boundaryBook (r : Report) (s : State) : powerOf (boundaryBook r s) = powerOf s := by
  rw [boundaryBook_eq]
  rfl

theorem powerOf_meterRequest (c : MeterClass) (o : Owner) (r : Rounding) (s : State) :
    powerOf (meterRequest c o r s) = powerOf s := by
  obtain ⟨_, e⟩ := meterRequest_frame c o r s
  rw [e]
  rfl

theorem powerOf_reanchor (s : State) : powerOf (reanchor s) = powerOf s := by
  obtain ⟨_, e⟩ := reanchor_frame s
  rw [e]
  rfl

theorem powerOf_stretchChanged (s : State) : powerOf (stretchChanged s) = powerOf s := by
  obtain ⟨_, e⟩ := stretchChanged_frame s
  rw [e]
  rfl

theorem cancelFrame_powerKept (cause : RecordCause) (s : State) : PowerKept s (cancelFrame cause s) := by
  unfold cancelFrame
  split
  · split
    · exact (setCamPower_powerKept false _).from_same rfl
    · exact .refl s
  · exact PowerKept.then_same (t := cancelCamera s) ((setCamPower_powerKept false _).from_same rfl) (powerOf_boundaryBook _ _)

theorem demandHold_powerKept (s : State) : PowerKept s (demandHold s) := by
  unfold demandHold
  split
  · exact cancelFrame_powerKept .hold s
  · split
    case h_5 =>
      rw [cutFrame_eq]
      exact .of_same (powerOf_boundaryBook _ _)
    case h_6 | h_7 | h_8 | h_9 => exact .refl s
    all_goals exact cancelFrame_powerKept .hold s

theorem holdEntry_powerKept (cause : HoldCause) (point : HoldPoint) (s : State) :
    PowerKept s (holdEntry cause point s) := by
  refine PowerKept.trans ?_ (holdCheck_powerKept _)
  exact (demandHold_powerKept _).from_same rfl

theorem causeArises_powerKept (cause : HoldCause) (s : State) : PowerKept s (causeArises cause s) := by
  unfold causeArises
  split
  case h_1 => exact holdEntry_powerKept cause .current s
  case h_2 =>
    split
    · exact .refl s
    · exact holdEntry_powerKept cause .current s
  case h_3 => split <;> exact .of_same rfl
  all_goals exact .of_same rfl

theorem powerCauseAtEntry_powerKept (s : State) : PowerKept s (powerCauseAtEntry s) := by
  unfold powerCauseAtEntry
  split
  · exact causeArises_powerKept .power s
  · exact .refl s

theorem walk_powerKept (fuel slot count : Nat) (s : State) : PowerKept s (walk fuel slot count s) := by
  induction fuel generalizing slot count s with
  | zero => exact holdEntry_powerKept .loop _ s
  | succ fuel ih =>
    unfold walk
    dsimp only
    split
    · exact (holdEntry_powerKept .loop _ _).from_same rfl
    · generalize hs2 : (if gateTrue _ _ = true then _ else _ : State) = s2
      have entered : PowerKept s s2 := by
        subst hs2
        split <;> exact .of_same rfl
      split
      · exact entered.then_same rfl
      · split
        · exact entered.trans (ih _ _ s2)
        · exact entered.trans (ih _ _ s2)
        · exact entered.then_same rfl

theorem walkFrom_powerKept (slot count : Nat) (s : State) : PowerKept s (walkFrom slot count s) :=
  walk_powerKept 24 slot count s

theorem walkNext_powerKept (slot : Nat) (s : State) : PowerKept s (walkNext slot s) := by
  unfold walkNext
  split
  · exact walkFrom_powerKept _ _ s
  · exact walkFrom_powerKept _ _ s
  · exact .of_same rfl

theorem evaluateAtBoundary_powerKept (s : State) : PowerKept s (evaluateAtBoundary s) := by
  unfold evaluateAtBoundary
  split
  · exact .refl s
  · dsimp only
    split
    · exact (walkNext_powerKept _ _).from_same rfl
    · split
      · exact .of_same (powerOf_reanchor _)
      · exact .of_same rfl

theorem frameBoundary_powerKept (r : Report) (s : State) : PowerKept s (frameBoundary r s) := by
  have booked : PowerKept s (boundaryBook r s) := .of_same (powerOf_boundaryBook r s)
  unfold frameBoundary
  dsimp only
  split
  case h_1 =>
    split
    · exact booked.then_same rfl
    · split
      · exact booked.trans (holdEntry_powerKept .camera _ _)
      · split
        · exact booked.trans (walkFrom_powerKept 0 0 _)
        · exact booked.trans (evaluateAtBoundary_powerKept _)
  case h_2 => split <;> exact booked.then_same rfl
  all_goals exact booked

/-! ## The camera controller -/

theorem powerOf_updateFaults (o : Outcome) (timeout : Bool) (s : State) : powerOf (updateFaults o timeout s) = powerOf s := by
  unfold updateFaults
  repeat' split
  all_goals rfl

theorem reportOutcome_powerKept (o : Outcome) (cause : RecordCause) (timeout : Bool) (value : Int) (f : Frame) (s : State) :
    PowerKept s (reportOutcome o cause timeout value f s) := by
  unfold reportOutcome
  split
  · exact .of_same rfl
  · exact (frameBoundary_powerKept _ _).from_same (powerOf_updateFaults o timeout s)

theorem settlePower_powerKept (f : Frame) (s : State) : PowerKept s (settlePower f s) := by
  unfold settlePower
  split
  · exact .of_same rfl
  · exact (setCamPower_powerKept false _).from_same rfl

theorem frameOutcome_powerKept (timeout : Bool) (f : Frame) (s : State) : PowerKept s (frameOutcome timeout f s) := by
  unfold frameOutcome
  dsimp only
  generalize hs1 : (if timeout = true then s else _ : State) = s1
  have settled : PowerKept s s1 := by
    subst hs1
    split
    · exact .refl s
    · exact (settlePower_powerKept f _).from_same rfl
  exact settled.trans ((reportOutcome_powerKept _ _ _ _ f s1).trans (chargeFrame_powerKept _))

theorem settleIfReady_powerKept (s : State) : PowerKept s (settleIfReady s) := by
  unfold settleIfReady
  split
  · split
    · exact frameOutcome_powerKept false _ s
    · exact .refl s
  · split
    · exact (setCamPower_powerKept false _).from_same rfl
    · exact .refl s

theorem completeWrite_powerKept (s : State) : PowerKept s (completeWrite s) :=
  (settleIfReady_powerKept _).from_same rfl

theorem readyChange_powerKept (rise : Bool) (s : State) : PowerKept s (readyChange rise s) := by
  unfold readyChange
  split
  · exact .refl s
  · dsimp only
    split
    · split
      · exact .of_same rfl
      · exact (completeWrite_powerKept _).from_same rfl
      · exact .of_same rfl
    · exact .of_same rfl

theorem syncClosure_powerKept (s : State) : PowerKept s (syncClosure s) := by
  unfold syncClosure
  dsimp only
  split
  · split
    · exact (settleIfReady_powerKept _).from_same rfl
    · exact .of_same rfl
  · exact .of_same rfl

theorem coolDown_powerKept (s : State) : PowerKept s (coolDown s) :=
  (setCamPower_powerKept false _).from_same rfl

theorem writeTimeout_powerKept (s : State) : PowerKept s (writeTimeout s) := by
  unfold writeTimeout
  split
  · exact coolDown_powerKept s
  · refine PowerKept.trans ?_ (frameOutcome_powerKept true _ _)
    exact (coolDown_powerKept _).from_same rfl

theorem cooldownEnd_powerKept (s : State) : PowerKept s (cooldownEnd s) := by
  unfold cooldownEnd
  dsimp only
  split
  case h_2 | h_3 => exact (setCamPower_powerKept true _).from_same rfl
  all_goals exact .of_same rfl

theorem powerOf_closeExchange (r : ExchangeResult) (x : Half) (s : State) : powerOf (closeExchange r x s) = powerOf s := by
  unfold closeExchange
  repeat' split
  all_goals rfl

theorem powerOf_replyRecord (status mode shutter gain checksum : Byte) (s : State) :
    powerOf (replyRecord status mode shutter gain checksum s) = powerOf s := by
  unfold replyRecord judgeReply
  dsimp only
  repeat' split
  case isFalse => rfl
  all_goals exact powerOf_closeExchange _ _ _

theorem powerOf_dueTime (s : State) : powerOf (dueTime s) = powerOf s := by
  unfold dueTime
  dsimp only
  generalize hs1 : (if exchangeOpen s = true then _ else s : State) = s1
  have closed : powerOf s1 = powerOf s := by
    subst hs1
    split
    · exact powerOf_closeExchange _ _ s
    · rfl
  split
  · exact closed
  · exact closed

theorem powerOf_requestMetering (s : State) : powerOf (requestMetering s) = powerOf s := by
  unfold requestMetering
  split
  · rfl
  · exact powerOf_meterRequest _ _ _ _

theorem powerOf_leaveComputation (f : Frame) (link : Bool) (e : Exposure) (s : State) :
    powerOf (leaveComputation f link e s) = powerOf s := by
  unfold leaveComputation
  dsimp only
  split <;> rfl

theorem powerOf_computeRun (f : Frame) (m : Metered) (s : State) : powerOf (computeRun f m s) = powerOf s := by
  unfold computeRun
  dsimp only
  rw [powerOf_leaveComputation]
  split <;> rfl

theorem settingLead_powerKept (s : State) : PowerKept s (settingLead s) := by
  unfold settingLead
  split
  · exact .refl s
  · dsimp only
    split
    · split
      · exact .of_same (powerOf_computeRun _ _ _)
      · exact .of_same (powerOf_leaveComputation _ _ _ _)
    · refine PowerKept.trans ?_ (reportOutcome_powerKept _ _ _ _ _ _)
      exact (setCamPower_powerKept false _).from_same rfl

theorem serveIf_powerKept (due : State → Bool) {op : State → State} (keeps : ∀ s, PowerKept s (op s)) (s : State) :
    PowerKept s (serveIf due op s) := by
  unfold serveIf
  split
  · exact keeps s
  · exact .refl s

theorem takeMoments_powerKept (s : State) : PowerKept s (takeMoments s) := by
  have meter := serveIf_powerKept meterLeadDue (fun s => .of_same (powerOf_requestMetering s)) s
  have setting := serveIf_powerKept settingLeadDue settingLead_powerKept
  have focus := serveIf_powerKept focusLeadDue (op := focusLead) fun _ => .of_same rfl
  have due := serveIf_powerKept dueTimeDue fun s => .of_same (powerOf_dueTime s)
  exact meter.trans <| (setting _).trans <| (focus _).trans (due _)

theorem handFrame_powerKept (f : Frame) (s : State) : PowerKept s (handFrame f s) := by
  unfold handFrame
  split
  case h_1 => exact (setCamPower_powerKept true _).from_same rfl
  case h_3 => exact .of_same (powerOf_requestMetering _)
  all_goals exact .of_same rfl

/-! ## The sequencer -/

theorem runBegin_powerKept (s : State) : PowerKept s (runBegin s) :=
  (powerCauseAtEntry_powerKept _).from_same (powerOf_meterRequest _ _ _ _)

theorem startRequest_powerKept (time : Option Word) (s : State) : PowerKept s (startRequest time s).1 := by
  have begins : PowerKept s (beginOrArm time (startAccepted s)) := by
    unfold beginOrArm
    split
    · exact (runBegin_powerKept _).from_same rfl
    · split
      · exact (runBegin_powerKept _).from_same rfl
      · exact (powerCauseAtEntry_powerKept _).from_same rfl
  unfold startRequest
  split
  case h_5 | h_6 =>
    split
    · exact .refl s
    · split
      · exact .refl s
      · split
        · exact .refl s
        · exact begins
  all_goals exact .refl s

theorem setClock_powerKept (seconds : Word) (ticks : Half) (s : State) : PowerKept s (setClock seconds ticks s).1 := by
  unfold setClock
  dsimp only
  split
  · exact (runBegin_powerKept _).from_same rfl
  · exact .of_same rfl

theorem stopRequest_powerKept (s : State) : PowerKept s (stopRequest s).1 := by
  unfold stopRequest
  split
  case h_5 =>
    dsimp only
    unfold stopRunning
    split
    · exact .refl s
    · split
      · split
        case h_1 | h_2 | h_3 | h_4 => exact (cancelFrame_powerKept .stop s).then_same rfl
        all_goals exact .of_same rfl
      · exact .of_same rfl
  all_goals exact .of_same rfl

theorem holdRequest_powerKept (s : State) : PowerKept s (holdRequest s).1 := by
  unfold holdRequest
  split
  case h_3 => exact causeArises_powerKept .host s
  case h_4 =>
    split
    · exact .refl s
    · exact causeArises_powerKept .host s
  case h_5 | h_6 =>
    split
    · exact .refl s
    · split <;> exact .of_same rfl
  all_goals exact .refl s

theorem prepareFrame_powerKept (slot due iEff factor : Nat) (s : State) :
    PowerKept s (prepareFrame slot due iEff factor s) := by
  refine PowerKept.trans ?_ (takeMoments_powerKept _)
  exact (handFrame_powerKept _ _).from_same rfl

theorem preparationStart_powerKept (s : State) : PowerKept s (preparationStart s) := by
  unfold preparationStart
  generalize hs1 : meterRequest .battery .power .down s = s1
  have sampled : PowerKept s s1 := .of_same (hs1 ▸ powerOf_meterRequest _ _ _ s)
  refine sampled.trans ?_
  dsimp only
  split
  · split
    · exact .of_same (powerOf_logWrite _ _)
    · generalize hs2 : (if endsWithoutFrame _ = true then _ else s1 : State) = s2
      have noted : PowerKept s1 s2 := by
        subst hs2
        split <;> exact .of_same rfl
      refine noted.trans ?_
      split
      · exact walkNext_powerKept _ s2
      · exact (prepareFrame_powerKept _ _ _ _ _).from_same rfl
  · exact .refl s1

theorem takeGap_powerKept (h : HoldData) (s : State) : PowerKept s (takeGap h s) := by
  unfold takeGap
  split
  · exact .refl s
  · dsimp only
    split
    · exact .of_same rfl
    · exact .of_same (powerOf_logWrite _ s)

theorem retryFrame_powerKept (slot : Nat) (g : Grid) (s : State) : PowerKept s (retryFrame slot g s) := by
  unfold retryFrame
  dsimp only
  refine (prepareFrame_powerKept _ _ _ _ _).from_same ((powerOf_meterRequest _ _ _ _).trans ?_)
  split <;> rfl

theorem continueHeld_powerKept (retry : Bool) (h : HoldData) (s : State) : PowerKept s (continueHeld retry h s).1 := by
  unfold continueHeld
  dsimp only
  split
  · exact .of_same rfl
  · split
    · exact (walkNext_powerKept _ _).from_same rfl
    · split
      · split
        · exact (retryFrame_powerKept _ _ _).from_same rfl
        · exact .of_same rfl
      · exact .of_same rfl

theorem leaveHold_powerKept (retry : Bool) (h : HoldData) (s : State) : PowerKept s (leaveHold retry h s).1 := by
  unfold leaveHold
  dsimp only
  split
  · split
    · exact (runBegin_powerKept _).from_same rfl
    · exact (powerCauseAtEntry_powerKept _).from_same rfl
  · generalize hs2 : takeGap h _ = s2
    have gap : PowerKept s s2 := hs2 ▸ (takeGap_powerKept h _).from_same rfl
    split
    · exact gap.trans (walkFrom_powerKept _ _ s2)
    · exact gap.trans (continueHeld_powerKept retry h s2)

theorem resumeRun_powerKept (retry : Bool) (h : HoldData) (s : State) : PowerKept s (resumeRun retry h s).1 := by
  unfold resumeRun
  dsimp only
  split
  · exact .of_same rfl
  · exact (leaveHold_powerKept retry h _).from_same rfl

theorem resumeRequest_powerKept (mode : Byte) (s : State) : PowerKept s (resumeRequest mode s).1 := by
  unfold resumeRequest
  split
  · split
    · exact .refl s
    · split
      · exact .refl s
      · exact resumeRun_powerKept _ _ s
  · exact .refl s

theorem recoveryExpiry_powerKept (s : State) : PowerKept s (recoveryExpiry s) := by
  have stopped : PowerKept s (s.modPow fun p => { p with recovery := none }) := ⟨id, id⟩
  unfold recoveryExpiry
  dsimp only
  split
  · split
    · exact stopped.trans ((resumeRun_powerKept false _ _).then_same rfl)
    · exact stopped
  · exact stopped

theorem commitRequest_powerKept (s : State) : PowerKept s (commitRequest s).1 := by
  have commits : PowerKept s (commitNow s) := by
    unfold commitNow
    split
    · dsimp only
      split
      · exact (walkFrom_powerKept 0 0 _).from_same rfl
      · exact .of_same rfl
    all_goals exact .of_same rfl
  unfold commitRequest
  repeat' split
  case h_2.isFalse => exact commits
  all_goals exact .of_same rfl

theorem testShotRequest_powerKept (s : State) : PowerKept s (testShotRequest s).1 := by
  have begins : PowerKept s (beginTest s) := by
    refine PowerKept.trans ?_ (takeMoments_powerKept _)
    exact (handFrame_powerKept _ _).from_same rfl
  unfold testShotRequest
  split
  case h_5 | h_6 =>
    split
    · exact .refl s
    · split
      · exact .refl s
      · exact begins
  all_goals exact .refl s

end Sys2Proof.Machine
end

section
/-! PROOFS. Every step keeps the power laws: the meter, the power monitor, the parameters and the requests (R146 to R167, R197). -/

namespace Sys2Proof.Machine

/-! ## The meter and the power monitor -/

theorem deliverFrame_powerKept (owner : Owner) (avg : Int) (dark : Bool) (s : State) :
    PowerKept s (deliverFrame owner avg dark s) := by
  have seeds : PowerKept s (acceptSeed avg s) := by
    unfold acceptSeed
    dsimp only
    split
    · exact (walkFrom_powerKept 0 0 _).from_same rfl
    · exact .of_same rfl
  unfold deliverFrame
  split
  case h_3 =>
    split
    · exact seeds
    · exact .refl s
  all_goals
    repeat' split
    all_goals exact .of_same rfl

theorem voltageToSequencer_powerKept (old new : Voltage) (s : State) : PowerKept s (voltageToSequencer old new s) := by
  unfold voltageToSequencer
  split
  case h_2 => exact causeArises_powerKept .power s
  all_goals exact .of_same rfl

theorem powerOf_voltageAlerts (old new : Voltage) (s : State) : powerOf (voltageAlerts old new s) = powerOf s := by
  unfold voltageAlerts
  split <;> rfl

theorem recoverySample_powerKept (v : Nat) (s : State) : PowerKept s (recoverySample v s) := by
  obtain ⟨r, e⟩ := recoverySample_frame v s
  rw [e]
  exact ⟨id, id⟩

/-- R149: a sample that changes the voltage state forms the levels, and one that leaves it leaves them. -/
theorem batterySample_powerKept (v : Nat) (s : State) : PowerKept s (batterySample v s) := by
  by_cases same : (measured v s).pow.voltage = s.pow.voltage
  · rw [batterySample_same same]
    have stands : PowerKept s (measured v s) :=
      ⟨id, fun ⟨charge, budget⟩ => ⟨charge, budget.trans (congrArg (budgetOf · s.pow.chargeLevel) same.symm)⟩⟩
    exact stands.trans (recoverySample_powerKept v _)
  · rw [batterySample_change rfl rfl same]
    refine (PowerKept.settled fun l => ?_).trans (recoverySample_powerKept v _)
    have handed := (voltageToSequencer_powerKept s.pow.voltage (measured v s).pow.voltage _).from_same
      (powerOf_voltageAlerts s.pow.voltage (measured v s).pow.voltage (measured v s))
    exact handed.charge l

theorem solarCredit_powerKept (ma : Nat) (s : State) : PowerKept s (solarCredit ma s) :=
  .settled fun ⟨⟨_, remainder⟩, heat⟩ => ⟨⟨Nat.min_le_right _ _, remainder⟩, heat⟩

theorem endJob_powerKept (c : MeterClass) (job : JobRequest) (cal : Int) (r : JobResult) (s : State) :
    PowerKept s (endJob c job cal r s) := by
  unfold endJob deliver
  split
  · exact (deliverFrame_powerKept _ _ _ _).from_same rfl
  · unfold deliverHost
    split <;> exact .of_same rfl
  · exact (batterySample_powerKept _ _).from_same rfl
  · exact (solarCredit_powerKept _ _).from_same rfl
  · exact ⟨id, id⟩
  · exact .of_same rfl

theorem setCharge_powerKept (charge : Half) (s : State) : PowerKept s (setCharge charge s).1 := by
  rw [setCharge_state]
  refine .settled fun l => ?_
  obtain ⟨q, c, p, e⟩ := accrual_frame s
  have accrued := accrual_charge l
  rw [recharged]
  rw [e] at accrued ⊢
  obtain ⟨-, heat⟩ := accrued
  exact ⟨⟨Nat.min_le_right _ _, Nat.zero_lt_succ _⟩, heat⟩

theorem periodicCompare_powerKept (s : State) : PowerKept s (periodicCompare s) := by
  refine .accrual fun l => ?_
  have requested := PowerKept.of_same ((powerOf_meterRequest .solar .power .down _).trans
    (powerOf_meterRequest .battery .power .down (s.modPow fun p => { p with periodicAt := nextPeriodic (now s) })))
  exact requested.charge l

theorem temperatureCompare_powerKept (s : State) : PowerKept s (temperatureCompare s) := by
  refine PowerKept.then_same ?_ (powerOf_meterRequest _ _ _ _)
  exact ⟨id, id⟩

/-- R162, R164: HEAT goes on in an eligible heater. -/
theorem heaterPeriodStart_powerKept {s : State} (due : heaterPeriodDue s = true) : PowerKept s (heaterPeriodStart s) := by
  have eligible : s.pow.eligible = true := by
    simp only [heaterPeriodDue, Bool.and_eq_true] at due
    exact due.1
  exact setHeat_powerKept (t := s.modPow _) (fun l => l.1) id fun _ => eligible

theorem heaterOffEdge_powerKept (s : State) : PowerKept s (heaterOffEdge s) :=
  setHeat_powerKept (t := s.modPow _) (fun l => l.1) id nofun

/-! ## The parameters -/

theorem storeParam_capacity {q : ParamId} (other : q ≠ .capacity) (p : Params) (v : Int) :
    (storeParam p q v).capacity = p.capacity := by
  cases q
  case capacity => exact absurd rfl other
  all_goals rfl

/-- R151, R158: of the parameters the laws read the capacity alone. -/
theorem withParam_powerKept {q : ParamId} (other : q ≠ .capacity) (v : Int) (s : State) : PowerKept s (withParam q v s) := by
  have capacity := storeParam_capacity other s.params v
  constructor
  · unfold ChargeLaw AccountLaw accountTop withParam
    rw [capacity]
    exact id
  · unfold LevelLaw perMille accountTop withParam
    rw [capacity]
    exact id

theorem formDraw_powerKept (s : State) : PowerKept s (formDraw s) := ⟨id, id⟩

theorem storeParameter_powerKept (q : ParamId) (v : Int) (s : State) : PowerKept s (storeParameter q v s) := by
  unfold storeParameter
  dsimp only
  split
  · exact .of_same rfl
  · split
    case isTrue draw =>
      have other : q ≠ .capacity := by
        rintro rfl
        exact absurd draw Bool.false_ne_true
      refine PowerKept.trans ?_ (formDraw_powerKept _)
      exact (PowerKept.accrual id).trans (withParam_powerKept other v (accrual s))
    · split
      case isTrue => exact .settled fun ⟨⟨_, remainder⟩, heat⟩ => ⟨⟨Nat.min_le_right _ _, remainder⟩, heat⟩
      case isFalse other =>
        have stored := withParam_powerKept other v s
        split
        · exact stored.then_same rfl
        · split
          · split
            · refine PowerKept.trans ?_ (keepOnTest_powerKept _)
              exact stored.then_same (powerOf_stretchChanged _)
            · exact stored
          · exact stored

theorem setParam_powerKept (id : Byte) (value : Word) (s : State) : PowerKept s (setParam id value s).1 := by
  unfold setParam
  split
  · exact .refl s
  · split
    · exact .refl s
    · dsimp only
      split
      · exact .refl s
      · unfold applyParameter
        split
        · exact .refl s
        · exact storeParameter_powerKept _ _ s

/-! ## The requests -/

theorem answerOf_powerKept {r : Request} {s : State} {a : Answer} (h : answerOf r s = some a) : PowerKept s a.1 := by
  cases r <;> simp only [answerOf, Option.some.injEq, reduceCtorEq] at h <;> subst h
  case setClock seconds ticks => exact setClock_powerKept seconds ticks s
  case setParam id value => exact setParam_powerKept id value s
  case commit => exact commitRequest_powerKept s
  case start time => exact startRequest_powerKept time s
  case stop => exact stopRequest_powerKept s
  case hold => exact holdRequest_powerKept s
  case resume mode => exact resumeRequest_powerKept mode s
  case testShot => exact testShotRequest_powerKept s
  case setCharge charge => exact setCharge_powerKept charge s
  case getParam id => unfold getParam; split <;> exact .refl s
  case getStatus part =>
    unfold getStatus
    repeat' split
    all_goals exact .refl s
  case putSegment slot record =>
    unfold putSegment
    repeat' split
    all_goals exact .of_same rfl
  case clearStaged =>
    unfold clearStaged
    repeat' split
    all_goals exact .of_same rfl
  case readSegment slot bank =>
    unfold readSegment
    repeat' split
    all_goals exact .refl s
  case readResumeRecord => unfold readResumeRecord; split <;> exact .refl s
  case setResumePoint slot count =>
    unfold setResumePoint
    repeat' split
    all_goals exact .of_same rfl
  case setLinkSpeed code => unfold setLinkSpeed; split <;> exact .of_same rfl
  all_goals exact .of_same rfl

theorem executeRequest_powerKept (r : Request) (s : State) : PowerKept s (executeRequest r s) := by
  unfold executeRequest
  dsimp only
  split
  · exact .of_same (powerOf_meterRequest _ _ _ _)
  case h_2 a => exact PowerKept.then_same ((answerOf_powerKept a).from_same rfl) rfl

/-! ## The line port -/

theorem receive_powerKept (r : Request) (s : State) : PowerKept s (receive r s) := by
  have valid : powerOf (validFrame s) = powerOf s := by
    unfold validFrame
    split <;> rfl
  unfold receive submit
  split
  · exact (executeRequest_powerKept r _).from_same valid
  · split <;> exact .of_same valid

theorem frameReceived_powerKept (kind : Byte) (payload : List Byte) (crc : Byte) (s : State) :
    PowerKept s (frameReceived kind payload crc s) := by
  unfold frameReceived
  split
  · exact .of_same rfl
  · split
    · exact (receive_powerKept _ _).from_same rfl
    · exact .of_same rfl

theorem replySent_powerKept (s : State) : PowerKept s (replySent s) := by
  obtain ⟨port, e, -⟩ := switchSpeed_line (s.modLine fun l => { l with reply := none, executing := none })
  unfold replySent
  rw [e]
  dsimp only
  split
  · exact .of_same rfl
  · exact (executeRequest_powerKept _ _).from_same rfl

/-! ## Every step -/

theorem event_powerInv {occasion : Bool} {op : State → State} {s : State} (l : PowerInv s)
    (keeps : occasion = true → PowerKept s (op s)) : PowerInv (event occasion op s) := by
  unfold event
  split
  case isTrue o => exact endEvent_powerInv s l (keeps o)
  case isFalse => exact l

theorem powerOnReset_powerInv (s : State) : PowerInv (powerOnReset s) := reset_powerInv

/-- R167: a pin reset keeps the account, the remainder and the charge level, in the voltage state NORMAL, with no run under way. -/
theorem pinReset_powerInv {s : State} (l : PowerInv s) : PowerInv (pinReset s) := by
  obtain ⟨account, ⟨charge, -⟩, -⟩ := l
  exact ⟨account, ⟨charge, rfl⟩, rfl, nofun⟩

theorem tick_powerInv {s : State} (l : PowerInv s) : PowerInv (tick s) := l

theorem queue_powerInv (s : State) (p : List Instr) (n : Nat) (l : PowerInv s) :
    PowerInv { s with pending := p, choices := n } := l

theorem exec_event_powerInv {c : Instr} {s t : State} (e : requestOf c = none) (l : PowerInv s)
    (h : exec c s = .next t) : PowerInv t := by
  cases c <;> simp only [requestOf, reduceCtorEq] at e
  case converterJobEnd codes =>
    rcases exec_converterJobEnd codes s with j | ⟨c, job, cal, r, -, j⟩ <;> cases j.symm.trans h
    · exact l
    · exact endEvent_powerInv s l (endJob_powerKept c job cal r s)
  all_goals
    injection h with h
    subst h
  case powerOnReset => exact powerOnReset_powerInv s
  case pinReset => exact pinReset_powerInv l
  case frameReceived kind payload crc => exact event_powerInv l fun _ => frameReceived_powerKept kind payload crc s
  case replySent => exact event_powerInv l fun _ => replySent_powerKept s
  case stopBitError startedAgo lowFor =>
    exact event_powerInv l fun _ => .of_same (by unfold stopBitError; split <;> rfl)
  case settingRecordSent => exact event_powerInv l fun _ => .of_same (by unfold settingRecordSent; split <;> rfl)
  case replyLeadByte => exact event_powerInv l fun _ => .of_same (by unfold replyLeadByte; split <;> rfl)
  case accessoryByteError => exact event_powerInv l fun _ => .of_same (by unfold accessoryByteError; split <;> rfl)
  case armedStartReached => exact event_powerInv l fun _ => runBegin_powerKept s
  case preparationStart => exact event_powerInv l fun _ => preparationStart_powerKept s
  case meterLead => exact event_powerInv l fun _ => .of_same (powerOf_requestMetering s)
  case settingLead => exact event_powerInv l fun _ => settingLead_powerKept s
  case dueTime => exact event_powerInv l fun _ => .of_same (powerOf_dueTime s)
  case replyRecord status mode shutter gain checksum =>
    exact event_powerInv l fun _ => .of_same (powerOf_replyRecord status mode shutter gain checksum s)
  case replyWindowExpiry => exact event_powerInv l fun _ => .of_same (powerOf_closeExchange _ _ s)
  case syncClosure => exact event_powerInv l fun _ => syncClosure_powerKept s
  case syncWindowExpiry => exact event_powerInv l fun _ => (settleIfReady_powerKept _).from_same rfl
  case readyChange rise => exact event_powerInv l fun _ => readyChange_powerKept rise s
  case dropWatchExpiry => exact event_powerInv l fun _ => completeWrite_powerKept s
  case writeTimeout => exact event_powerInv l fun _ => writeTimeout_powerKept s
  case cooldownEnd => exact event_powerInv l fun _ => cooldownEnd_powerKept s
  case recoveryTimerExpiry => exact event_powerInv l fun _ => recoveryExpiry_powerKept s
  case periodicCompare => exact event_powerInv l fun _ => periodicCompare_powerKept s
  case temperatureCompare => exact event_powerInv l fun _ => temperatureCompare_powerKept s
  case heaterPeriodStart => exact event_powerInv l heaterPeriodStart_powerKept
  case heaterOffEdge => exact event_powerInv l fun _ => heaterOffEdge_powerKept s
  -- The others move a field of the camera, or the receiver.
  all_goals exact event_powerInv l fun _ => .of_same rfl

theorem exec_powerInv {c : Instr} {s t : State} (l : PowerInv s) (h : exec c s = .next t) : PowerInv t := by
  cases req : requestOf c with
  | some r =>
    cases (exec_of_request req s).symm.trans h
    exact endEvent_powerInv s l (receive_powerKept r s)
  | none => exact exec_event_powerInv req l h

/-- Settles O57: every operation keeps the account and the levels, and every event ends with the heater's eligibility formed. -/
theorem everyStepKeepsThePowerLaws : Obligations.EveryStepKeepsThePowerLaws :=
  fun _ _ => step_keeps queue_powerInv (fun _ => tick_powerInv) (fun _ _ _ => exec_powerInv)

end Sys2Proof.Machine
end

section
/-! PROOFS. The frame log's own operations within the law of R168 (R176, R179, R181), and what the operations of a run do to the
log: they write records, and nothing else. -/

namespace Sys2Proof.Machine

/-! ## The log's operations -/

/-- R168: the law of a log of a given size. -/
def FrameLog.Law (size : Nat) (l : FrameLog) : Prop :=
  l.records.length ≤ size ∧ l.readIndex < size ∧
  l.written < 4294967296 ∧ l.released < 4294967296 ∧ l.overwritten < 4294967296 ∧
  (l.records.length + l.released + l.overwritten) % 4294967296 = l.written

/-- R181: the four sizes of the log. -/
def IsLogSize (size : Nat) : Prop := size = 64 ∨ size = 128 ∨ size = 256 ∨ size = 512

theorem logLaw_iff (s : State) : LogLaw s ↔ IsLogSize s.params.logSize ∧ s.log.Law s.params.logSize := Iff.rfl

theorem IsLogSize.pos {size : Nat} (h : IsLogSize size) : 0 < size := by
  unfold IsLogSize at h
  omega

/-- R181: a value brought into range is one of the four sizes. -/
theorem logSizeInRange_isLogSize (v : Int) : IsLogSize (logSizeInRange v).toNat := by
  unfold logSizeInRange IsLogSize
  split_ifs <;> omega

section
variable {size : Nat} {l : FrameLog}

/-- R176: a record stored moves `written` by one, and either the held count or, in a full log, `overwritten`. -/
theorem FrameLog.Law.store (r : LogRecord) (h : l.Law size) (pos : 0 < size) : (storeRecord size r l).Law size := by
  obtain ⟨held, index, written, released, overwritten, sum⟩ := h
  have length := storeRecord_length size r l held pos
  unfold Law
  rw [length]
  unfold storeRecord counterAdd
  split
  case isTrue room => exact ⟨by omega, index, by dsimp only; omega, released, overwritten, by dsimp only; omega⟩
  case isFalse full =>
    exact ⟨by omega, Nat.mod_lt _ pos, by dsimp only; omega, released, by dsimp only; omega, by dsimp only; omega⟩

/-- R179: a release moves `released` by as many records as it takes from the held ones. -/
theorem FrameLog.Law.release (n : Nat) (h : l.Law size) (pos : 0 < size) : (releaseRecords size n l).Law size := by
  obtain ⟨held, index, written, released, overwritten, sum⟩ := h
  unfold Law releaseRecords counterAdd
  dsimp only
  rw [List.length_drop]
  exact ⟨by omega, Nat.mod_lt _ pos, written, by omega, overwritten, by omega⟩

/-- R181: an empty log takes any size, with its read index at 0. -/
theorem FrameLog.Law.resize {size' : Nat} (h : l.Law size) (empty : l.records = []) (pos : 0 < size') :
    ({ l with readIndex := 0 } : FrameLog).Law size' := by
  obtain ⟨-, -, counters⟩ := h
  exact ⟨by simp [empty], pos, counters⟩

end

/-! ## Records written -/

/-- R176: `t` has the log of `a` with some records written to it one after the other, and its size. -/
def Logged (a t : State) : Prop :=
  t.params.logSize = a.params.logSize ∧
  ∃ rs : List LogRecord, t.log = rs.foldl (fun l r => storeRecord a.params.logSize r l) a.log

theorem Logged.refl (s : State) : Logged s s := ⟨rfl, [], rfl⟩

theorem FrameLog.Law.stores {size : Nat} (pos : 0 < size) (rs : List LogRecord) {l : FrameLog} (h : l.Law size) :
    (rs.foldl (fun l r => storeRecord size r l) l).Law size := by
  induction rs generalizing l with
  | nil => exact h
  | cons r rs ih => exact ih (h.store r pos)

/-- R168: records written keep the law of the log. -/
theorem Logged.law {a t : State} (w : Logged a t) (l : LogLaw a) : LogLaw t := by
  obtain ⟨size, rs, log⟩ := w
  obtain ⟨four, within⟩ := (logLaw_iff a).mp l
  rw [logLaw_iff, size, log]
  exact ⟨four, within.stores four.pos rs⟩

section
variable {a s : State}

theorem logWrite_logged (r : LogRecord) (w : Logged a s) : Logged a (logWrite r s) := by
  obtain ⟨size, rs, log⟩ := w
  rw [logWrite_eq]
  exact ⟨size, rs ++ [r], by rw [List.foldl_append, size, log]; rfl⟩

/-! ## Levels, power and the end of an event -/

theorem Logged.formed {t : State} (w : Logged a s) (h : FormedFrom s t) : Logged a t := by
  obtain ⟨_, _, _, _, _, _, _, rfl⟩ := h
  exact w

/-- Stated of any change of the power monitor, so that no proof looks into a charge taken (R153). -/
theorem Logged.modPow (w : Logged a s) (f : Power → Power) : Logged a (s.modPow f) := w

theorem reanchor_logged (w : Logged a s) : Logged a (reanchor s) := by
  obtain ⟨_, e⟩ := reanchor_frame s
  rwa [e]

theorem settleLevels_logged (w : Logged a s) : Logged a (settleLevels s) := by
  obtain ⟨_, _, _, e⟩ := settleLevels_frame s
  rwa [e]

theorem accrual_logged (w : Logged a s) : Logged a (accrual s) := by
  obtain ⟨_, _, _, e⟩ := accrual_frame s
  rwa [e]

theorem setCamPower_logged (on : Bool) (w : Logged a s) : Logged a (setCamPower on s) := by
  obtain ⟨_, _, _, e⟩ := setCamPower_frame on s
  rwa [e]

theorem setHeat_logged (on : Bool) (w : Logged a s) : Logged a (setHeat on s) := by
  obtain ⟨_, _, _, e⟩ := setHeat_frame on s
  rwa [e]

/-! ## Hold, walk and boundary -/

theorem boundaryBook_logged (r : Report) (w : Logged a s) : Logged a (boundaryBook r s) := by
  have booked := logWrite_logged (bookedRecord r s) w
  rw [logWrite_eq] at booked
  rw [boundaryBook_eq]
  exact booked

theorem cancelFrame_logged (cause : RecordCause) (w : Logged a s) : Logged a (cancelFrame cause s) := by
  unfold cancelFrame
  split
  · split
    · exact setCamPower_logged false w
    · exact w
  · exact boundaryBook_logged _ (s := (cancelCamera s).modCam _) (setCamPower_logged false w)

theorem cutFrame_logged (f : Frame) (w : Logged a s) : Logged a (cutFrame f s) := by
  rw [cutFrame_eq]
  exact boundaryBook_logged (cutReport f s) (s := { s with cam := _ }) w

theorem demandHold_logged (w : Logged a s) : Logged a (demandHold s) := by
  unfold demandHold
  split
  · exact cancelFrame_logged .hold w
  · split
    case h_5 => exact cutFrame_logged _ w
    case h_6 | h_7 | h_8 | h_9 => exact w
    all_goals exact cancelFrame_logged .hold w

theorem holdEntry_logged (cause : HoldCause) (point : HoldPoint) (w : Logged a s) :
    Logged a (holdEntry cause point s) :=
  (demandHold_logged (s := s.modSeq _) w).formed (holdCheck_formed _)

theorem causeArises_logged (cause : HoldCause) (w : Logged a s) : Logged a (causeArises cause s) := by
  unfold causeArises
  split
  case h_1 => exact holdEntry_logged cause .current w
  case h_2 =>
    split
    · exact w
    · exact holdEntry_logged cause .current w
  case h_3 => split <;> exact w
  all_goals exact w

theorem powerCauseAtEntry_logged (w : Logged a s) : Logged a (powerCauseAtEntry s) := by
  unfold powerCauseAtEntry
  split
  · exact causeArises_logged .power w
  · exact w

theorem walk_logged (fuel slot count : Nat) (w : Logged a s) : Logged a (walk fuel slot count s) := by
  induction fuel generalizing slot count s with
  | zero => exact holdEntry_logged .loop _ w
  | succ fuel ih =>
    unfold walk
    dsimp only
    split
    · exact holdEntry_logged .loop _ (s := s.modSeq _) w
    · generalize hs2 : (if gateTrue _ _ = true then _ else _ : State) = s2
      have entered : Logged a s2 := by
        subst hs2
        split <;> exact w
      split
      · exact entered
      · split
        · exact ih _ _ entered
        · exact ih _ _ entered
        · exact entered

theorem walkFrom_logged (slot count : Nat) (w : Logged a s) : Logged a (walkFrom slot count s) :=
  walk_logged 24 slot count w

theorem walkNext_logged (slot : Nat) (w : Logged a s) : Logged a (walkNext slot s) := by
  unfold walkNext
  split
  · exact walkFrom_logged _ _ w
  · exact walkFrom_logged _ _ w
  · exact w

theorem evaluateAtBoundary_logged (w : Logged a s) : Logged a (evaluateAtBoundary s) := by
  unfold evaluateAtBoundary
  split
  · exact w
  · dsimp only
    split
    · exact walkNext_logged _ (s := noteEvaluation _ s) w
    · split
      · exact reanchor_logged (s := noteEvaluation _ s) w
      · exact w

theorem frameBoundary_logged (r : Report) (w : Logged a s) : Logged a (frameBoundary r s) := by
  have booked := boundaryBook_logged r w
  unfold frameBoundary
  dsimp only
  split
  case h_1 =>
    split
    · exact booked
    · split
      · exact holdEntry_logged .camera _ booked
      · split
        · exact walkFrom_logged 0 0 booked
        · exact evaluateAtBoundary_logged booked
  case h_2 => split <;> exact booked
  all_goals exact booked

/-! ## The camera controller -/

theorem updateFaults_logged (o : Outcome) (timeout : Bool) (w : Logged a s) : Logged a (updateFaults o timeout s) := by
  unfold updateFaults
  repeat' split
  all_goals exact w

theorem reportOutcome_logged (o : Outcome) (cause : RecordCause) (timeout : Bool) (value : Int) (f : Frame)
    (w : Logged a s) : Logged a (reportOutcome o cause timeout value f s) := by
  unfold reportOutcome
  split
  · exact w
  · exact frameBoundary_logged _ (s := State.modCam _ _) (updateFaults_logged o timeout w)

theorem settlePower_logged (f : Frame) (w : Logged a s) : Logged a (settlePower f s) := by
  unfold settlePower
  split
  · exact w
  · exact setCamPower_logged false (s := s.modCam _) w

theorem chargeFrame_logged (w : Logged a s) : Logged a (chargeFrame s) := settleLevels_logged (w.modPow _)

theorem frameOutcome_logged (timeout : Bool) (f : Frame) (w : Logged a s) : Logged a (frameOutcome timeout f s) := by
  unfold frameOutcome
  dsimp only
  generalize hs1 : (if timeout = true then s else _ : State) = s1
  have settled : Logged a s1 := by
    subst hs1
    split
    · exact w
    · exact settlePower_logged f (s := s.modCam _) w
  exact chargeFrame_logged (reportOutcome_logged _ _ _ _ f settled)

theorem settleIfReady_logged (w : Logged a s) : Logged a (settleIfReady s) := by
  unfold settleIfReady
  split
  · split
    · exact frameOutcome_logged false _ w
    · exact w
  · split
    · exact setCamPower_logged false (s := s.modCam _) w
    · exact w

theorem readyChange_logged (rise : Bool) (w : Logged a s) : Logged a (readyChange rise s) := by
  unfold readyChange
  split
  · exact w
  · dsimp only
    split
    · split
      case h_2 => exact settleIfReady_logged (s := State.modCam _ _) w
      all_goals exact w
    · exact w

theorem syncClosure_logged (w : Logged a s) : Logged a (syncClosure s) := by
  unfold syncClosure
  dsimp only
  split
  · split
    · exact settleIfReady_logged (s := State.modCam _ _) w
    · exact w
  · exact w

theorem coolDown_logged (w : Logged a s) : Logged a (coolDown s) := setCamPower_logged false (s := s.modCam _) w

theorem writeTimeout_logged (w : Logged a s) : Logged a (writeTimeout s) := by
  unfold writeTimeout
  split
  · exact coolDown_logged w
  · exact frameOutcome_logged true _ (coolDown_logged (s := s.modCam _) w)

theorem cooldownEnd_logged (w : Logged a s) : Logged a (cooldownEnd s) := by
  unfold cooldownEnd
  dsimp only
  split
  case h_2 | h_3 => exact setCamPower_logged true (s := s.modCam _) w
  all_goals exact w

theorem closeExchange_logged (r : ExchangeResult) (x : Half) (w : Logged a s) : Logged a (closeExchange r x s) := by
  unfold closeExchange
  repeat' split
  all_goals exact w

theorem replyRecord_logged (status mode shutter gain checksum : Byte) (w : Logged a s) :
    Logged a (replyRecord status mode shutter gain checksum s) := by
  unfold replyRecord judgeReply
  dsimp only
  repeat' split
  case isFalse => exact w
  all_goals exact closeExchange_logged _ _ w

theorem dueTime_logged (w : Logged a s) : Logged a (dueTime s) := by
  unfold dueTime
  dsimp only
  generalize hs1 : (if exchangeOpen s = true then _ else s : State) = s1
  have closed : Logged a s1 := by
    subst hs1
    split
    · exact closeExchange_logged _ _ w
    · exact w
  split <;> exact closed

theorem requestMetering_logged (w : Logged a s) : Logged a (requestMetering s) := by
  unfold requestMetering
  split <;> exact w

theorem leaveComputation_logged (f : Frame) (link : Bool) (e : Exposure) (w : Logged a s) :
    Logged a (leaveComputation f link e s) := by
  unfold leaveComputation
  dsimp only
  split <;> exact w

theorem computeRun_logged (f : Frame) (m : Metered) (w : Logged a s) : Logged a (computeRun f m s) := by
  unfold computeRun
  dsimp only
  refine leaveComputation_logged _ _ _ ?_
  split <;> exact w

theorem settingLead_logged (w : Logged a s) : Logged a (settingLead s) := by
  unfold settingLead
  split
  · exact w
  · dsimp only
    split
    · split
      · exact computeRun_logged _ _ (s := s.modCam _) w
      · exact leaveComputation_logged _ _ _ (s := State.modRamp _ _) w
    · exact reportOutcome_logged _ _ _ _ _ (setCamPower_logged false (s := State.modCam _ _) w)

theorem serveIf_logged (due : State → Bool) {op : State → State} (keeps : Logged a s → Logged a (op s)) (w : Logged a s) :
    Logged a (serveIf due op s) := by
  unfold serveIf
  split
  · exact keeps w
  · exact w

theorem takeMoments_logged (w : Logged a s) : Logged a (takeMoments s) := by
  have meter := serveIf_logged meterLeadDue (op := meterLead) requestMetering_logged w
  have setting := serveIf_logged settingLeadDue settingLead_logged meter
  have focus := serveIf_logged focusLeadDue (op := focusLead) id setting
  exact serveIf_logged dueTimeDue dueTime_logged focus

theorem handFrame_logged (f : Frame) (w : Logged a s) : Logged a (handFrame f s) := by
  unfold handFrame
  split
  case h_1 => exact setCamPower_logged true (s := s.modCam _) w
  case h_3 => exact requestMetering_logged (s := s.modCam _) w
  all_goals exact w

end

end Sys2Proof.Machine
end

section
/-! PROOFS. Every step keeps the law of the log: the sequencer, the meter and the power monitor write records, RELEASE_FRAMES takes
the oldest, SET_PARAM resizes an empty log, and the resets empty the log or keep it (R168, R176, R179, R181, R182). -/

namespace Sys2Proof.Machine

section
variable {a s : State}

/-! ## The sequencer -/

theorem runBegin_logged (w : Logged a s) : Logged a (runBegin s) :=
  powerCauseAtEntry_logged (s := meterRequest _ _ _ _) w

theorem startRequest_logged (time : Option Word) (w : Logged a s) : Logged a (startRequest time s).1 := by
  have begins : Logged a (beginOrArm time (startAccepted s)) := by
    unfold beginOrArm
    split
    · exact runBegin_logged (s := startAccepted s) w
    · split
      · exact runBegin_logged (s := startAccepted s) w
      · exact powerCauseAtEntry_logged (s := State.modSeq _ _) w
  unfold startRequest
  split
  case h_5 | h_6 =>
    split
    · exact w
    · split
      · exact w
      · split
        · exact w
        · exact begins
  all_goals exact w

theorem setClock_logged (seconds : Word) (ticks : Half) (w : Logged a s) : Logged a (setClock seconds ticks s).1 := by
  unfold setClock
  dsimp only
  split
  · exact runBegin_logged (s := s.modTb _) w
  · exact w

theorem stopRequest_logged (w : Logged a s) : Logged a (stopRequest s).1 := by
  unfold stopRequest
  split
  case h_5 =>
    dsimp only
    unfold stopRunning
    split
    · exact w
    · split
      · split
        case h_1 | h_2 | h_3 | h_4 => exact cancelFrame_logged .stop w
        all_goals exact w
      · exact w
  all_goals exact w

theorem holdRequest_logged (w : Logged a s) : Logged a (holdRequest s).1 := by
  unfold holdRequest
  split
  case h_3 => exact causeArises_logged .host w
  case h_4 =>
    split
    · exact w
    · exact causeArises_logged .host w
  case h_5 | h_6 =>
    split
    · exact w
    · split <;> exact w
  all_goals exact w

theorem prepareFrame_logged (slot due iEff factor : Nat) (w : Logged a s) :
    Logged a (prepareFrame slot due iEff factor s) :=
  takeMoments_logged (handFrame_logged _ (s := numberFrame due s) w)

/-- R45: a frame missed by OVERRUN leaves its record. -/
theorem preparationStart_logged (w : Logged a s) : Logged a (preparationStart s) := by
  unfold preparationStart
  generalize hs1 : meterRequest .battery .power .down s = s1
  have sampled : Logged a s1 := by
    subst hs1
    exact w
  dsimp only
  split
  · split
    · exact logWrite_logged _ (s := nextIndex _) sampled
    · generalize hs2 : (if endsWithoutFrame _ = true then _ else s1 : State) = s2
      have noted : Logged a s2 := by
        subst hs2
        split <;> exact sampled
      split
      · exact walkNext_logged _ noted
      · exact prepareFrame_logged _ _ _ _ (s := nextIndex s2) noted
  · exact sampled

/-- R174: lost dues leave one GAP record. -/
theorem takeGap_logged (h : HoldData) (w : Logged a s) : Logged a (takeGap h s) := by
  unfold takeGap
  split
  · exact w
  · dsimp only
    split
    · exact w
    · exact logWrite_logged _ w

theorem retryFrame_logged (slot : Nat) (g : Grid) (w : Logged a s) : Logged a (retryFrame slot g s) := by
  unfold retryFrame
  dsimp only
  refine prepareFrame_logged _ _ _ _ (s := meterRequest _ _ _ _) ?_
  split <;> exact w

theorem continueHeld_logged (retry : Bool) (h : HoldData) (w : Logged a s) : Logged a (continueHeld retry h s).1 := by
  unfold continueHeld
  dsimp only
  split
  · exact w
  · split
    · exact walkNext_logged _ (s := noteEvaluation _ (restoreSegment h s)) w
    · split
      · split
        · exact retryFrame_logged _ _ (s := State.modSeq _ _) w
        · exact w
      · exact w

theorem leaveHold_logged (retry : Bool) (h : HoldData) (w : Logged a s) : Logged a (leaveHold retry h s).1 := by
  unfold leaveHold
  dsimp only
  split
  · split
    · exact runBegin_logged (s := State.modSeq _ _) w
    · exact powerCauseAtEntry_logged (s := State.modSeq _ _) w
  · generalize hs2 : takeGap h _ = s2
    have gap : Logged a s2 := hs2 ▸ takeGap_logged h (s := State.modSeq _ _) w
    split
    · exact walkFrom_logged _ _ gap
    · exact continueHeld_logged retry h gap

theorem resumeRun_logged (retry : Bool) (h : HoldData) (w : Logged a s) : Logged a (resumeRun retry h s).1 := by
  unfold resumeRun
  dsimp only
  split
  · exact w
  · exact leaveHold_logged retry h (s := State.modSeq _ _) w

theorem resumeRequest_logged (mode : Byte) (w : Logged a s) : Logged a (resumeRequest mode s).1 := by
  unfold resumeRequest
  split
  · split
    · exact w
    · split
      · exact w
      · exact resumeRun_logged _ _ w
  · exact w

theorem recoveryExpiry_logged (w : Logged a s) : Logged a (recoveryExpiry s) := by
  unfold recoveryExpiry
  dsimp only
  split
  · split
    · exact resumeRun_logged false _ (w.modPow _)
    · exact w
  · exact w

theorem commitRequest_logged (w : Logged a s) : Logged a (commitRequest s).1 := by
  have commits : Logged a (commitNow s) := by
    unfold commitNow
    split
    · dsimp only
      split
      · exact walkFrom_logged 0 0 (s := raiseAlert _ _) w
      · exact w
    all_goals exact w
  unfold commitRequest
  repeat' split
  case h_2.isFalse => exact commits
  all_goals exact w

theorem testShotRequest_logged (w : Logged a s) : Logged a (testShotRequest s).1 := by
  have begins : Logged a (beginTest s) := takeMoments_logged (handFrame_logged _ (s := State.modRamp _ _) w)
  unfold testShotRequest
  split
  case h_5 | h_6 =>
    split
    · exact w
    · split
      · exact w
      · exact begins
  all_goals exact w

/-! ## The meter and the power monitor -/

theorem deliverFrame_logged (owner : Owner) (avg : Int) (dark : Bool) (w : Logged a s) :
    Logged a (deliverFrame owner avg dark s) := by
  have seeds : Logged a (acceptSeed avg s) := by
    unfold acceptSeed
    dsimp only
    split
    · exact walkFrom_logged 0 0 (s := State.modSeq _ _) w
    · exact w
  unfold deliverFrame
  split
  case h_3 =>
    split
    · exact seeds
    · exact w
  all_goals
    repeat' split
    all_goals exact w

theorem recoverySample_logged (v : Nat) (w : Logged a s) : Logged a (recoverySample v s) := by
  obtain ⟨_, e⟩ := recoverySample_frame v s
  rwa [e]

/-- R149: a sample that changes the voltage state may park the run, and a cancelled frame leaves its record. -/
theorem batterySample_logged (v : Nat) (w : Logged a s) : Logged a (batterySample v s) := by
  have alerts (old new : Voltage) {t : State} (x : Logged a t) : Logged a (voltageAlerts old new t) := by
    unfold voltageAlerts
    split <;> exact x
  have hands (old new : Voltage) {t : State} (x : Logged a t) : Logged a (voltageToSequencer old new t) := by
    unfold voltageToSequencer
    split
    case h_2 => exact causeArises_logged .power x
    all_goals exact x
  have sampled : Logged a (measured v s) := w
  by_cases same : (measured v s).pow.voltage = s.pow.voltage
  · rw [batterySample_same same]
    exact recoverySample_logged v sampled
  · rw [batterySample_change rfl rfl same]
    exact recoverySample_logged v (settleLevels_logged (hands _ _ (alerts _ _ sampled)))

theorem endJob_logged (c : MeterClass) (job : JobRequest) (cal : Int) (r : JobResult) (w : Logged a s) :
    Logged a (endJob c job cal r s) := by
  unfold endJob deliver
  split
  · exact deliverFrame_logged _ _ _ (s := s.modMeter _) w
  · unfold deliverHost
    split <;> exact w
  · exact batterySample_logged _ (s := s.modMeter _) w
  · exact settleLevels_logged (Logged.modPow (s := s.modMeter _) w _)
  · exact w
  · exact w

theorem setCharge_logged (charge : Half) (w : Logged a s) : Logged a (setCharge charge s).1 := by
  rw [setCharge_state]
  exact settleLevels_logged ((accrual_logged w).modPow _)

end

/-! ## SET_PARAM -/

theorem storeParam_logSize {q : ParamId} (other : q ≠ .logSize) (p : Params) (v : Int) :
    (storeParam p q v).logSize = p.logSize := by
  cases q
  case logSize => exact absurd rfl other
  all_goals rfl

/-- R181: a parameter that leaves the log's size leaves the log. -/
theorem withParam_logged {q : ParamId} (other : q ≠ .logSize) (v : Int) {a s : State} (w : Logged a s) :
    Logged a (withParam q v s) := by
  obtain ⟨size, records⟩ := w
  exact ⟨(storeParam_logSize other s.params v).trans size, records⟩

theorem storeParameter_logged {q : ParamId} (other : q ≠ .logSize) (v : Int) (s : State) :
    Logged s (storeParameter q v s) := by
  have stored := withParam_logged other v (.refl s)
  unfold storeParameter
  dsimp only
  split
  · exact .refl s
  · split
    · exact (withParam_logged other v (accrual_logged (.refl s))).modPow _
    · split
      · exact settleLevels_logged (stored.modPow _)
      · split
        · split
          · obtain ⟨_, e⟩ := stretchChanged_frame (withParam q v s)
            refine Logged.formed (s := stretchChanged (withParam q v s)) ?_ (keepOnTest_formed _)
            rw [e]
            exact stored
          · exact stored
        · exact stored

/-- R181: the log takes a new size when it is empty. -/
theorem applyParameter_logSize_law {s : State} (v : Int) (empty : s.log.records = []) (l : LogLaw s) :
    LogLaw (applyParameter .logSize (logSizeInRange v) s) := by
  have four := logSizeInRange_isLogSize v
  unfold applyParameter
  split
  · exact l
  · obtain ⟨-, within⟩ := (logLaw_iff s).mp l
    exact (logLaw_iff _).mpr ⟨four, within.resize empty four.pos⟩

theorem setParam_logLaw (id : Byte) (value : Word) {s : State} (l : LogLaw s) : LogLaw (setParam id value s).1 := by
  unfold setParam
  split
  · exact l
  case h_2 q _ =>
    split
    · exact l
    · dsimp only
      split
      · exact l
      case h_2 passes =>
        by_cases size : q = .logSize
        · subst size
          refine applyParameter_logSize_law value.toInt ?_ l
          by_contra records
          exact absurd ((ownerTest_logSize_refuses records).symm.trans passes) nofun
        · unfold applyParameter
          split
          · exact l
          · exact (storeParameter_logged size _ s).law l

/-! ## The requests -/

/-- R179: what RELEASE_FRAMES takes goes to `released`. -/
theorem releaseFrames_logLaw (count : Half) {s : State} (l : LogLaw s) : LogLaw (releaseFrames count s).1 := by
  obtain ⟨four, within⟩ := (logLaw_iff s).mp l
  exact (logLaw_iff _).mpr ⟨four, within.release count.toNat four.pos⟩

/-- Of the requests SET_PARAM and RELEASE_FRAMES alone do more to the log than write records. -/
theorem answerOf_logLaw {r : Request} {s : State} {a : Answer} (h : answerOf r s = some a) (l : LogLaw s) : LogLaw a.1 := by
  have w := Logged.refl s
  cases r <;> simp only [answerOf, Option.some.injEq, reduceCtorEq] at h <;> subst h
  case setParam id value => exact setParam_logLaw id value l
  case releaseFrames count => exact releaseFrames_logLaw count l
  case setClock seconds ticks => exact (setClock_logged seconds ticks w).law l
  case commit => exact (commitRequest_logged w).law l
  case start time => exact (startRequest_logged time w).law l
  case stop => exact (stopRequest_logged w).law l
  case hold => exact (holdRequest_logged w).law l
  case resume mode => exact (resumeRequest_logged mode w).law l
  case testShot => exact (testShotRequest_logged w).law l
  case setCharge charge => exact (setCharge_logged charge w).law l
  case getParam id => unfold getParam; split <;> exact l
  case getStatus part =>
    unfold getStatus
    repeat' split
    all_goals exact l
  case putSegment slot record =>
    unfold putSegment
    repeat' split
    all_goals exact l
  case clearStaged =>
    unfold clearStaged
    repeat' split
    all_goals exact l
  case readSegment slot bank =>
    unfold readSegment
    repeat' split
    all_goals exact l
  case readResumeRecord => unfold readResumeRecord; split <;> exact l
  case setResumePoint slot count =>
    unfold setResumePoint
    repeat' split
    all_goals exact l
  case setLinkSpeed code => unfold setLinkSpeed; split <;> exact l
  all_goals exact l

section
variable {s : State}

theorem executeRequest_logLaw (r : Request) (l : LogLaw s) : LogLaw (executeRequest r s) := by
  unfold executeRequest
  dsimp only
  split
  · exact l
  case h_2 answered => exact answerOf_logLaw answered l

/-! ## The line port -/

theorem receive_logLaw (r : Request) (l : LogLaw s) : LogLaw (receive r s) := by
  have valid : LogLaw (validFrame s) := by
    unfold validFrame
    split <;> exact l
  unfold receive submit
  split
  · exact executeRequest_logLaw r valid
  · split <;> exact valid

theorem frameReceived_logLaw (kind : Byte) (payload : List Byte) (crc : Byte) (l : LogLaw s) :
    LogLaw (frameReceived kind payload crc s) := by
  unfold frameReceived
  split
  · exact l
  · split
    · exact receive_logLaw _ (s := s.modLine _) l
    · exact l

theorem replySent_logLaw (l : LogLaw s) : LogLaw (replySent s) := by
  obtain ⟨port, e, -⟩ := switchSpeed_line (s.modLine fun l => { l with reply := none, executing := none })
  unfold replySent
  rw [e]
  dsimp only
  split
  · exact l
  · exact executeRequest_logLaw _ (s := State.modLine _ _) l

/-! ## Every step -/

theorem endEvent_logLaw (s0 : State) (l : LogLaw s) : LogLaw (endEvent s0 s) :=
  ((Logged.refl s).formed (endEvent_formed s0 s)).law l

theorem event_logLaw {occasion : Bool} {op : State → State} (l : LogLaw s) (keeps : LogLaw (op s)) :
    LogLaw (event occasion op s) := by
  unfold event
  split
  · exact endEvent_logLaw s keeps
  · exact l

/-- An event that does no more to the log than write records. -/
theorem event_logLaw_of_logged {occasion : Bool} {op : State → State} (l : LogLaw s) (w : Logged s (op s)) :
    LogLaw (event occasion op s) := event_logLaw l (w.law l)

end

theorem exec_event_logLaw {c : Instr} {s t : State} (e : requestOf c = none) (l : LogLaw s) (h : exec c s = .next t) :
    LogLaw t := by
  have w := Logged.refl s
  cases c <;> simp only [requestOf, reduceCtorEq] at e
  case converterJobEnd codes =>
    rcases exec_converterJobEnd codes s with j | ⟨c, job, cal, r, -, j⟩ <;> cases j.symm.trans h
    · exact l
    · exact endEvent_logLaw s ((endJob_logged c job cal r w).law l)
  all_goals
    injection h with h
    subst h
  -- R182: power-on empties the log, a pin reset keeps it.
  case powerOnReset => exact reset_logLaw
  case pinReset => exact l
  case frameReceived kind payload crc => exact event_logLaw l (frameReceived_logLaw kind payload crc l)
  case replySent => exact event_logLaw l (replySent_logLaw l)
  case stopBitError startedAgo lowFor => exact event_logLaw l (by unfold stopBitError; split <;> exact l)
  case settingRecordSent => exact event_logLaw l (by unfold settingRecordSent; split <;> exact l)
  case replyLeadByte => exact event_logLaw l (by unfold replyLeadByte; split <;> exact l)
  case accessoryByteError => exact event_logLaw l (by unfold accessoryByteError; split <;> exact l)
  case armedStartReached => exact event_logLaw_of_logged l (runBegin_logged w)
  case preparationStart => exact event_logLaw_of_logged l (preparationStart_logged w)
  case meterLead => exact event_logLaw_of_logged l (requestMetering_logged w)
  case settingLead => exact event_logLaw_of_logged l (settingLead_logged w)
  case dueTime => exact event_logLaw_of_logged l (dueTime_logged w)
  case replyRecord status mode shutter gain checksum =>
    exact event_logLaw_of_logged l (replyRecord_logged status mode shutter gain checksum w)
  case replyWindowExpiry => exact event_logLaw_of_logged l (closeExchange_logged _ _ w)
  case syncClosure => exact event_logLaw_of_logged l (syncClosure_logged w)
  case syncWindowExpiry => exact event_logLaw_of_logged l (settleIfReady_logged (s := s.modCam _) w)
  case readyChange rise => exact event_logLaw_of_logged l (readyChange_logged rise w)
  case dropWatchExpiry => exact event_logLaw_of_logged l (settleIfReady_logged (s := s.modCam _) w)
  case writeTimeout => exact event_logLaw_of_logged l (writeTimeout_logged w)
  case cooldownEnd => exact event_logLaw_of_logged l (cooldownEnd_logged w)
  case recoveryTimerExpiry => exact event_logLaw_of_logged l (recoveryExpiry_logged w)
  case periodicCompare => exact event_logLaw_of_logged l (accrual_logged (s := meterRequest _ _ _ _) w)
  case heaterPeriodStart => exact event_logLaw_of_logged l (setHeat_logged _ (w.modPow _))
  case heaterOffEdge => exact event_logLaw_of_logged l (setHeat_logged false (w.modPow _))
  -- The others move a field of the camera, the meter or the receiver.
  all_goals exact event_logLaw l l

theorem exec_logLaw {c : Instr} {s t : State} (l : LogLaw s) (h : exec c s = .next t) : LogLaw t := by
  cases req : requestOf c with
  | some r =>
    cases (exec_of_request req s).symm.trans h
    exact endEvent_logLaw s (receive_logLaw r l)
  | none => exact exec_event_logLaw req l h

/-- Settles O56: records written, released and an empty log resized keep the law, and a step does nothing else to the log. -/
theorem everyStepKeepsTheLogLaw : Obligations.EveryStepKeepsTheLogLaw :=
  fun _ _ => step_keeps (fun _ _ _ => id) (fun _ => id) fun _ _ _ => exec_logLaw

end Sys2Proof.Machine
end

section
/-! PROOFS. The reads of the log, the alerts and the link statistics, and RELEASE_FRAMES (R178 to R180, R192, R199, R200). -/

namespace Sys2Proof.Machine

/-! ## The alert set at the end of an event -/

/-- R129: the end of an event raises nothing but HOLD_ENTERED, on reaching HOLD. -/
theorem holdCheck_alerts (s : State) :
    (holdCheck s).line.alerts = s.line.alerts ∨ (s.seq.state = .holding ∧ (holdCheck s).seq.state = .hold) := by
  unfold holdCheck
  split
  case isTrue parked =>
    obtain ⟨holding, -⟩ := parked
    split
    · exact .inl rfl
    · exact .inr ⟨holding, rfl⟩
  case isFalse => exact .inl rfl

/-- R117: the keep-on test leaves the state of the run. -/
theorem keepOnTest_state (s : State) : (keepOnTest s).seq.state = s.seq.state := by
  obtain ⟨_, _, _, _, e, -⟩ := keepOnTest_levels s
  rw [e]

/-- R129, R199: an event that does not reach HOLD ends with its own alert set. -/
theorem endEvent_alerts_of_not_reached {s t : State} (h : (endEvent s t).seq.state ≠ .hold ∨ t.seq.state = .hold) :
    (endEvent s t).line.alerts = t.line.alerts := by
  have before : (keepOnTest t).line = t.line := (FormsOn.of_levels (keepOnTest_levels t)).line
  have after : (endEvent s t).line.alerts = (held t).line.alerts := by
    rw [endEvent_eq, ← (formsOn_after_hold s t).line]
  rcases holdCheck_alerts (keepOnTest t) with kept | ⟨holding, hold⟩
  · exact after.trans (kept.trans (congrArg LinePort.alerts before))
  · obtain ⟨-, seq⟩ := endEvent_parked s (t := t) (by rw [held, hold]; nofun)
    rw [keepOnTest_state] at holding
    rw [seq, held, hold, holding] at h
    exact absurd h (by decide)

/-- R199: with the alert set empty ATN is inactive. -/
theorem atnOf_of_no_alerts {l : LinePort} (h : l.alerts = 0) : atnOf l = false := by
  simp [atnOf, h]

/-! ## The requests -/

section
variable {s : State}

/-- R178. -/
theorem exec_readFrames (l : Listening s) :
    exec .readFrames s = .next (endEvent s (replied .readFrames .ok
      (.frames s.log.records.length s.log.overwritten (s.log.records.take 2)) (taken .readFrames s))) :=
  exec_answered rfl l (by simp only [answerOf, readFrames, taken_log])

/-- R180. -/
theorem exec_getLogInfo (l : Listening s) :
    exec .getLogInfo s = .next (endEvent s (replied .getLogInfo .ok
      (.logInfo s.params.logSize s.log.records.length s.log.written s.log.released s.log.overwritten)
      (taken .getLogInfo s))) :=
  exec_answered rfl l (by simp only [answerOf, getLogInfo, taken_log, taken_params])

/-- R179: the log without its oldest `k` records. -/
def releasedLog (k : Nat) (s : State) : FrameLog :=
  { s.log with
    records := s.log.records.drop k
    readIndex := (s.log.readIndex + k) % s.params.logSize
    released := (s.log.released + k) % 2 ^ 32 }

theorem exec_releaseFrames (count : Half) (l : Listening s) :
    exec (.releaseFrames count) s = .next (endEvent s (replied (.releaseFrames count)
      (if count.toNat ≤ s.log.records.length then .ok else .clamped)
      (.released (min count.toNat s.log.records.length)
        (s.log.records.length - min count.toNat s.log.records.length) s.log.overwritten)
      { taken (.releaseFrames count) s with log := releasedLog (min count.toNat s.log.records.length) s })) := by
  obtain ⟨_, e, -⟩ := taken_frame (.releaseFrames count) s
  refine exec_answered rfl l ?_
  rw [e]
  simp only [answerOf, releaseFrames, State.modLog, releaseRecords, List.length_drop]
  rfl

/-- R200. -/
theorem exec_readAlerts (l : Listening s) :
    exec .readAlerts s = .next (endEvent s (replied .readAlerts .ok (.alerts s.line.alerts s.ramp.sticky)
      { taken .readAlerts s with
        line := { (taken .readAlerts s).line with alerts := 0 }, ramp := { s.ramp with sticky := 0 } })) := by
  obtain ⟨_, e, -, alerts, -⟩ := taken_frame .readAlerts s
  refine exec_answered rfl l ?_
  rw [e, ← alerts]
  rfl

/-- R192: the line state read is that of the request's own frame, LISTENING. -/
theorem exec_getLinkStats (l : Listening s) :
    exec .getLinkStats s = .next (endEvent s (replied .getLinkStats .ok
      (.linkStats s.line.crcErrors s.line.framingErrors s.line.lengthErrors s.line.gapErrors s.line.overrunErrors
        s.line.speed .listening)
      { taken .getLinkStats s with
        line :=
          { (taken .getLinkStats s).line with
            crcErrors := 0, framingErrors := 0, lengthErrors := 0, gapErrors := 0, overrunErrors := 0 } })) := by
  obtain ⟨awake, -⟩ := id l
  have listening := taken_state .getLinkStats s awake
  obtain ⟨port, e, -, -, -, speed, -, -, -, crc, framing, length, gap, overrun⟩ := taken_frame .getLinkStats s
  refine exec_answered rfl l ?_
  rw [← listening, e, ← speed, ← crc, ← framing, ← length, ← gap, ← overrun]
  rfl

/-- R129, R199, R200: after READ_ALERTS ATN is inactive, unless its event has reached HOLD. -/
theorem readAlerts_atn {t : State} (l : Listening s) (h : exec .readAlerts s = .next t)
    (reached : t.seq.state ≠ .hold ∨ s.seq.state = .hold) : t.line.atn = false := by
  obtain rfl := Host.Outcome.next.inj ((exec_readAlerts l).symm.trans h)
  rw [endEvent_atn]
  refine atnOf_of_no_alerts ((endEvent_alerts_of_not_reached (reached.imp_right fun hold => ?_)).trans rfl)
  exact (congrArg Sequencer.state (taken_seq .readAlerts s)).trans hold

end

/-- Settles O33. -/
theorem logAlertsAndStatsAreReadBack : Obligations.LogAlertsAndStatsAreReadBack :=
  ⟨fun count _ l => ⟨exec_readFrames l, exec_getLogInfo l, exec_releaseFrames count l⟩,
    fun _ l => ⟨exec_readAlerts l, fun _ => readAlerts_atn l, exec_getLinkStats l⟩⟩

end Sys2Proof.Machine
end

section
/-! PROOFS. The bytes of a line frame: little-endian fields, the CRC, and what a KIND and a payload decode to (R184, R193, R194,
R202, R203). -/

namespace Sys2Proof

/-! ## Little-endian fields -/

@[simp] theorem half_bytes (x : Half) : half (x.extractLsb' 0 8) (x.extractLsb' 8 8) = x :=
  BitVec.extractLsb'_append_extractLsb' (w := 8) (len := 8)

@[simp] theorem word_bytes (x : Word) :
    word (x.extractLsb' 0 8) (x.extractLsb' 8 8) (x.extractLsb' 16 8) (x.extractLsb' 24 8) = x := by
  have upper : x.extractLsb' 24 8 ++ x.extractLsb' 16 8 = x.extractLsb' 16 16 :=
    BitVec.extractLsb'_append_extractLsb'_eq_extractLsb' rfl
  have most : x.extractLsb' 16 16 ++ x.extractLsb' 8 8 = x.extractLsb' 8 24 :=
    BitVec.extractLsb'_append_extractLsb'_eq_extractLsb' rfl
  rw [word, upper, most]
  exact BitVec.extractLsb'_append_extractLsb' (w := 24) (len := 8)

@[simp] theorem halfBytes_half (b0 b1 : Byte) : halfBytes (half b0 b1) = [b0, b1] := by
  have low : (half b0 b1).extractLsb' 0 8 = b0 := BitVec.extractLsb'_append_eq_right
  have high : (half b0 b1).extractLsb' 8 8 = b1 := BitVec.extractLsb'_append_eq_left
  rw [halfBytes, low, high]

@[simp] theorem wordBytes_word (b0 b1 b2 b3 : Byte) : wordBytes (word b0 b1 b2 b3) = [b0, b1, b2, b3] := by
  have first : (word b0 b1 b2 b3).extractLsb' 0 8 = b0 := BitVec.extractLsb'_append_eq_right
  have second : (word b0 b1 b2 b3).extractLsb' 8 8 = b1 :=
    (BitVec.extractLsb'_append_eq_of_le (by decide)).trans BitVec.extractLsb'_append_eq_right
  have third : (word b0 b1 b2 b3).extractLsb' 16 8 = b2 :=
    (BitVec.extractLsb'_append_eq_of_le (by decide)).trans
      ((BitVec.extractLsb'_append_eq_of_le (by decide)).trans BitVec.extractLsb'_append_eq_right)
  have fourth : (word b0 b1 b2 b3).extractLsb' 24 8 = b3 :=
    (BitVec.extractLsb'_append_eq_of_le (by decide)).trans
      ((BitVec.extractLsb'_append_eq_of_le (by decide)).trans BitVec.extractLsb'_append_eq_left)
  rw [wordBytes, first, second, third, fourth]

/-! ## The CRC -/

theorem crcByte_self (r : Byte) : crcByte r r = 0 := by
  rw [crcByte, BitVec.xor_self]
  decide

/-- R184: a run of bytes followed by its own CRC leaves no remainder. -/
theorem crc8_append_crc8 (bytes : List Byte) : crc8 (bytes ++ [crc8 bytes]) = 0 := by
  rw [crc8, List.foldl_append]
  exact crcByte_self _

/-! ## The segment record -/

theorem SegmentRecord.ofBytes_bytes (r : SegmentRecord) : SegmentRecord.ofBytes r.bytes = some r := by
  simp [SegmentRecord.bytes, SegmentRecord.ofBytes, halfBytes, wordBytes]

theorem SegmentRecord.length_of_ofBytes {bytes : List Byte} {r : SegmentRecord}
    (h : SegmentRecord.ofBytes bytes = some r) : bytes.length = 31 := by
  unfold SegmentRecord.ofBytes at h
  split at h
  · rfl
  · cases h

theorem SegmentRecord.exists_of_length {bytes : List Byte} (h : bytes.length = 31) :
    ∃ r : SegmentRecord, r.bytes = bytes := by
  match bytes, h with
  | [gk, a0, a1, c0, c1, tk, t0, t1, t2, t3, nk, jt, i0, i1, i2, i3, em, f0, f1, s0, s1, e0, e1, k, sl, m0, m1, x0, x1,
      gm, rm], _ =>
    exact ⟨⟨gk, half a0 a1, half c0 c1, tk, word t0 t1 t2 t3, nk, jt, word i0 i1 i2 i3, em, half f0 f1, half s0 s1,
      half e0 e1, k, sl, half m0 m1, half x0 x1, gm, rm⟩, by simp [SegmentRecord.bytes]⟩

/-! ## Requests -/

/-- The bytes of a request of the catalog decode to it. -/
theorem decodeRequest_payload {r : Request} {payload : List Byte} (h : r.payload = some payload) :
    decodeRequest r.kind payload = r := by
  cases r with
  | unknownKind | badLength => cases h
  | setClock seconds ticks =>
    cases h
    exact congrArg₂ Request.setClock (word_bytes seconds) (half_bytes ticks)
  | setParam id value =>
    cases h
    exact congrArg (Request.setParam id) (word_bytes value)
  | putSegment slot record =>
    cases h
    change putSegmentOf (slot :: record.bytes) = _
    rw [putSegmentOf, record.ofBytes_bytes]
  | start time =>
    cases time with
    | none => cases h; rfl
    | some time =>
      cases h
      exact congrArg (fun t => Request.start (some t)) (word_bytes time)
  | setResumePoint slot count =>
    cases h
    exact congrArg (Request.setResumePoint slot) (half_bytes count)
  | setCharge charge =>
    cases h
    exact congrArg Request.setCharge (half_bytes charge)
  | releaseFrames count =>
    cases h
    exact congrArg Request.releaseFrames (half_bytes count)
  | _ => cases h; rfl

/-- Settles O37. -/
theorem everyRequestDecodesFromItsBytes : Obligations.EveryRequestDecodesFromItsBytes :=
  ⟨fun _ _ => decodeRequest_payload, fun _ _ => crc8_append_crc8 _⟩

/-- R193, R194: the payloads of the lengths `lens` are requests with this KIND, and every other length is BAD_LENGTH. -/
def DecodesAt (kind : Byte) (lens : List Nat) : Prop :=
  ∀ payload : List Byte,
    (payload.length ∉ lens → decodeRequest kind payload = .badLength kind) ∧
      (payload.length ∈ lens →
        (decodeRequest kind payload).kind = kind ∧ (decodeRequest kind payload).payload = some payload)

/-- Where the payloads of the given lengths are those of requests, and the others are BAD_LENGTH. -/
theorem DecodesAt.of_requests {kind : Byte} {lens : List Nat}
    (misfit : ∀ payload : List Byte, payload.length ∉ lens → decodeRequest kind payload = .badLength kind)
    (fit : ∀ payload : List Byte, payload.length ∈ lens → ∃ r : Request, r.kind = kind ∧ r.payload = some payload) :
    DecodesAt kind lens := by
  refine fun payload => ⟨misfit payload, fun h => ?_⟩
  obtain ⟨r, rfl, bytes⟩ := fit payload h
  rw [decodeRequest_payload bytes]
  exact ⟨rfl, bytes⟩

/-- A KIND with no payload bytes. -/
theorem DecodesAt.nil {kind : Byte} (r : Request) (has : r.kind = kind) (bytes : r.payload = some [])
    (longer : ∀ a rest, decodeRequest kind (a :: rest) = .badLength kind) : DecodesAt kind [0] := by
  refine .of_requests (fun payload misfit => ?_) fun payload fit => ?_
  · match payload with
    | [] => exact absurd (List.mem_singleton.mpr rfl) misfit
    | a :: rest => exact longer a rest
  · obtain rfl := List.eq_nil_of_length_eq_zero (List.mem_singleton.mp fit)
    exact ⟨r, has, bytes⟩

/-- A KIND with one payload byte. -/
theorem DecodesAt.byte {kind : Byte} (f : Byte → Request) (has : ∀ a, (f a).kind = kind)
    (bytes : ∀ a, (f a).payload = some [a]) (empty : decodeRequest kind [] = .badLength kind)
    (longer : ∀ a b rest, decodeRequest kind (a :: b :: rest) = .badLength kind) : DecodesAt kind [1] := by
  refine .of_requests (fun payload misfit => ?_) fun payload fit => ?_
  · match payload with
    | [] => exact empty
    | [_] => exact absurd (List.mem_singleton.mpr rfl) misfit
    | a :: b :: rest => exact longer a b rest
  · obtain ⟨a, rfl⟩ := List.length_eq_one_iff.mp (List.mem_singleton.mp fit)
    exact ⟨f a, has a, bytes a⟩

/-- A KIND with two payload bytes. -/
theorem DecodesAt.twoBytes {kind : Byte} (f : Byte → Byte → Request) (has : ∀ a b, (f a b).kind = kind)
    (bytes : ∀ a b, (f a b).payload = some [a, b]) (empty : decodeRequest kind [] = .badLength kind)
    (short : ∀ a, decodeRequest kind [a] = .badLength kind)
    (longer : ∀ a b c rest, decodeRequest kind (a :: b :: c :: rest) = .badLength kind) : DecodesAt kind [2] := by
  refine .of_requests (fun payload misfit => ?_) fun payload fit => ?_
  · match payload with
    | [] => exact empty
    | [a] => exact short a
    | [_, _] => exact absurd (List.mem_singleton.mpr rfl) misfit
    | a :: b :: c :: rest => exact longer a b c rest
  · obtain ⟨a, b, rfl⟩ := List.length_eq_two.mp (List.mem_singleton.mp fit)
    exact ⟨f a b, has a b, bytes a b⟩

theorem decodesAt_setClock : DecodesAt 0x03 [6] := by
  refine .of_requests (fun payload misfit => ?_) fun payload fit => ?_
  · match payload with
    | [] | [_] | [_, _] | [_, _, _] | [_, _, _, _] | [_, _, _, _, _] | _ :: _ :: _ :: _ :: _ :: _ :: _ :: _ => rfl
    | [_, _, _, _, _, _] => exact absurd (List.mem_singleton.mpr rfl) misfit
  · match payload, List.mem_singleton.mp fit with
    | [a, b, c, d, e, f], _ => exact ⟨.setClock (word a b c d) (half e f), rfl, by simp [Request.payload]⟩

theorem decodesAt_setParam : DecodesAt 0x05 [5] := by
  refine .of_requests (fun payload misfit => ?_) fun payload fit => ?_
  · match payload with
    | [] | [_] | [_, _] | [_, _, _] | [_, _, _, _] | _ :: _ :: _ :: _ :: _ :: _ :: _ => rfl
    | [_, _, _, _, _] => exact absurd (List.mem_singleton.mpr rfl) misfit
  · match payload, List.mem_singleton.mp fit with
    | [id, a, b, c, d], _ => exact ⟨.setParam id (word a b c d), rfl, by simp [Request.payload]⟩

theorem decodesAt_setResumePoint : DecodesAt 0x25 [3] := by
  refine .of_requests (fun payload misfit => ?_) fun payload fit => ?_
  · match payload with
    | [] | [_] | [_, _] | _ :: _ :: _ :: _ :: _ => rfl
    | [_, _, _] => exact absurd (List.mem_singleton.mpr rfl) misfit
  · match payload, List.mem_singleton.mp fit with
    | [slot, a, b], _ => exact ⟨.setResumePoint slot (half a b), rfl, by simp [Request.payload]⟩

/-- START, with and without a start time. -/
theorem decodesAt_start : DecodesAt 0x20 [0, 4] := by
  refine .of_requests (fun payload misfit => ?_) fun payload fit => ?_
  · match payload with
    | [_] | [_, _] | [_, _, _] | _ :: _ :: _ :: _ :: _ :: _ => rfl
    | [] | [_, _, _, _] => simp at misfit
  · match payload, (List.mem_cons.mp fit).imp_right List.mem_singleton.mp with
    | [], _ => exact ⟨.start none, rfl, rfl⟩
    | [a, b, c, d], _ => exact ⟨.start (some (word a b c d)), rfl, by simp [Request.payload]⟩

/-- PUT_SEGMENT: the slot and the 31 bytes of a segment record. -/
theorem decodesAt_putSegment : DecodesAt 0x10 [32] := by
  refine .of_requests (fun payload misfit => ?_) fun payload fit => ?_
  · change putSegmentOf payload = _
    match payload with
    | [] => rfl
    | slot :: rest =>
      cases h : SegmentRecord.ofBytes rest with
      | none => rw [putSegmentOf, h]
      | some r => simp [SegmentRecord.length_of_ofBytes h] at misfit
  · match payload with
    | slot :: rest =>
      obtain ⟨r, rfl⟩ := SegmentRecord.exists_of_length (bytes := rest) (by simpa using fit)
      exact ⟨.putSegment slot r, rfl, rfl⟩

/-- Settles O36: the KINDs of the catalog by the shape of their payloads, and no other KIND. -/
theorem decodedRequestsAreTheCatalogs : Obligations.DecodedRequestsAreTheCatalogs := by
  refine fun kind payload => ⟨fun outside => ?_, ?_⟩
  · simp only [List.mem_cons, not_or] at outside
    unfold decodeRequest
    simp only [outside, if_false]
  · suffices rows : ∀ row : Byte × List Nat, row ∈ _ → DecodesAt row.1 row.2 from
      fun row mem e => e ▸ rows row mem payload
    simp only [List.forall_mem_cons]
    exact ⟨.nil .identify rfl rfl fun _ _ => rfl,
      .byte .getStatus (fun _ => rfl) (fun _ => rfl) rfl fun _ _ _ => rfl,
      decodesAt_setClock, decodesAt_setParam,
      .byte .getParam (fun _ => rfl) (fun _ => rfl) rfl fun _ _ _ => rfl,
      decodesAt_putSegment,
      .twoBytes .readSegment (fun _ _ => rfl) (fun _ _ => rfl) rfl (fun _ => rfl) fun _ _ _ _ => rfl,
      .nil .clearStaged rfl rfl fun _ _ => rfl,
      .nil .commit rfl rfl fun _ _ => rfl,
      .nil .lockProgram rfl rfl fun _ _ => rfl,
      decodesAt_start,
      .nil .stop rfl rfl fun _ _ => rfl,
      .nil .hold rfl rfl fun _ _ => rfl,
      .byte .resume (fun _ => rfl) (fun _ => rfl) rfl fun _ _ _ => rfl,
      .nil .readResumeRecord rfl rfl fun _ _ => rfl,
      decodesAt_setResumePoint,
      .nil .testShot rfl rfl fun _ _ => rfl,
      .nil .meterNow rfl rfl fun _ _ => rfl,
      .twoBytes (fun a b => .setCharge (half a b)) (fun _ _ => rfl) (fun a b => congrArg some (halfBytes_half a b)) rfl
        (fun _ => rfl) fun _ _ _ _ => rfl,
      .nil .getPower rfl rfl fun _ _ => rfl,
      .nil .readFrames rfl rfl fun _ _ => rfl,
      .twoBytes (fun a b => .releaseFrames (half a b)) (fun _ _ => rfl) (fun a b => congrArg some (halfBytes_half a b)) rfl
        (fun _ => rfl) fun _ _ _ _ => rfl,
      .nil .getLogInfo rfl rfl fun _ _ => rfl,
      .nil .readAlerts rfl rfl fun _ _ => rfl,
      .nil .getLinkStats rfl rfl fun _ _ => rfl,
      .byte .setLinkSpeed (fun _ => rfl) (fun _ => rfl) rfl fun _ _ _ => rfl,
      nofun⟩

end Sys2Proof
end

section
/-! PROOFS. The line port: the command slots, the receiver and its errors, the break, waking and listening, and the speed trial
(R185 to R191). -/

namespace Sys2Proof.Machine

/-! ## Occasions -/

/-- An event whose occasion stands is taken, and ends with what is formed at its end (R22). -/
theorem exec_taken {c : Instr} {occasion : Bool} {op : State → State} {s t : State}
    (row : exec c s = .next (event occasion op s)) (due : occasion = true) (does : op s = t) :
    exec c s = .next (endEvent s t) :=
  does ▸ row.trans (congrArg Host.Outcome.next (event_of_due due op s))

/-- A row with no occasion has no effect (entries 2 and 3). -/
theorem exec_without_occasion {c : Instr} {occasion : Bool} {op : State → State} {s : State}
    (row : exec c s = .next (event occasion op s)) (idle : occasion = false) : exec c s = .next s :=
  row.trans (congrArg Host.Outcome.next (event_of_not_due idle op))

section
variable {t : Option Nat} {at_ startedAgo : Nat} {s : State}

theorem reached_of_registered (registered : t = some at_) (due : at_ ≤ s.tb.runCounter) : reached t s = true := by
  rw [registered]
  exact decide_eq_true due

theorem not_reached (h : t = none ∨ ∃ at_, t = some at_ ∧ s.tb.runCounter < at_) : reached t s = false := by
  rcases h with rfl | ⟨at_, rfl, early⟩
  · rfl
  · exact decide_eq_false (Nat.not_le.mpr early)

/-- R185. -/
theorem receiverOpen_of (awake : s.line.state ≠ .dormant) (high : s.line.awaitHigh = false) : receiverOpen s = true := by
  simp [receiverOpen, awake, high]

/-- R186: after a stop-bit error the receiver takes nothing. -/
theorem receiverOpen_of_awaitHigh (low : s.line.awaitHigh = true) : receiverOpen s = false := by
  simp [receiverOpen, low]

theorem assemblyOpen_of (awake : s.line.state ≠ .dormant) (high : s.line.awaitHigh = false)
    (frame : s.line.assembling = true) : assemblyOpen s = true := by
  rw [assemblyOpen, receiverOpen_of awake high, frame]
  rfl

/-- R188: the window of a waking edge, which lasts 4 ticks. -/
theorem inWakeWindow_of (h : ∃ t : Nat, s.line.wakeEdgeAt = some t ∧ s.tb.runCounter < t + 4 + startedAgo) :
    inWakeWindow startedAgo s = true := by
  obtain ⟨t, edge, inside⟩ := h
  rw [inWakeWindow, edge]
  exact decide_eq_true inside

theorem not_inWakeWindow
    (h : s.line.wakeEdgeAt = none ∨ ∃ t : Nat, s.line.wakeEdgeAt = some t ∧ t + 4 + startedAgo ≤ s.tb.runCounter) :
    inWakeWindow startedAgo s = false := by
  unfold inWakeWindow
  rcases h with edge | ⟨t, edge, outside⟩
  · rw [edge]
  · rw [edge]
    exact decide_eq_false (Nat.not_lt.mpr outside)

/-! ## The command slots -/

/-- A frame that carries a request leaves the two slots (R188, R191). -/
theorem validFrame_slots (s : State) :
    (validFrame s).line.executing = s.line.executing ∧ (validFrame s).line.held = s.line.held := by
  unfold validFrame
  split <;> exact ⟨rfl, rfl⟩

theorem receive_of_free (r : Request) (free : s.line.executing = none) :
    receive r s = executeRequest r (validFrame s) := by
  obtain ⟨executing, -⟩ := validFrame_slots s
  rw [receive, submit, executing, free]
  rfl

theorem receive_of_executing (r : Request) (busy : s.line.executing ≠ none) (free : s.line.held = none) :
    receive r s = (validFrame s).modLine fun l => { l with held := some r } := by
  obtain ⟨executing, held⟩ := validFrame_slots s
  rw [receive, submit, executing, held, free, if_neg (by simpa using busy)]
  rfl

theorem receive_of_full (r : Request) (busy : s.line.executing ≠ none) (full : s.line.held ≠ none) :
    receive r s = (validFrame s).modLine fun l =>
      { l with overrunErrors := min (l.overrunErrors + 1) 65535, alerts := l.alerts ||| 0x0200 } := by
  obtain ⟨executing, held⟩ := validFrame_slots s
  rw [receive, submit, executing, held, if_neg (by simpa using busy), if_neg (by simpa using full)]
  rfl

theorem validFrame_of_listening (h : s.line.state = .listening) :
    validFrame s =
      { s with line := { s.line with listenAt := some (s.tb.runCounter + 2048), breakAt := none } } := by
  rw [validFrame, h]
  rfl

theorem validFrame_of_speedTrial (h : s.line.state = .speedTrial) :
    validFrame s =
      { s with
        line :=
          { s.line with
            state := .listening, trialAt := none, listenAt := some (s.tb.runCounter + 2048), breakAt := none } } := by
  rw [validFrame, h]
  rfl

theorem validFrame_of_dormant (h : s.line.state = .dormant) : validFrame s = s := by
  rw [validFrame, h]

end

/-- Settles O6. -/
theorem requestsArePlacedInTheCommandSlots : Obligations.RequestsArePlacedInTheCommandSlots := by
  intro c r s request
  rw [exec_of_request request s]
  exact ⟨fun free => by rw [receive_of_free r free], fun busy free => by rw [receive_of_executing r busy free],
    fun busy full => by rw [receive_of_full r busy full], validFrame_of_listening, validFrame_of_speedTrial,
    validFrame_of_dormant⟩

/-! ## The end of a reply -/

section
variable {s : State}

theorem setLinkSpeed_refused {code : Byte} (h : 4 ≤ code.toNat) (s : State) :
    setLinkSpeed code s = (s, .badField, .field 1) := by
  have unknown : speedOf code = none := by
    unfold speedOf
    rw [if_neg, if_neg, if_neg, if_neg] <;> rintro rfl <;> simp at h
  rw [setLinkSpeed, unknown]

theorem exec_replySent (going : s.line.reply ≠ none) (busy : s.line.executing ≠ none) {t : State}
    (h : replySent s = t) : exec .replySent s = .next (endEvent s t) := by
  have occasion : replyGoing s = true := by
    simpa [replyGoing, Option.isSome_iff_ne_none] using And.intro going busy
  exact exec_taken rfl occasion h

/-- R190: `s` with its reply gone and the executing slot empty. -/
def replyGone (s : State) : State := { s with line := { s.line with reply := none, executing := none } }

theorem switchSpeed_of_unarmed (h : s.line.switchTo = none) : switchSpeed s = s := by
  rw [switchSpeed, h]

theorem switchSpeed_of_armed {sp : Speed} (h : s.line.switchTo = some sp) :
    switchSpeed s =
      { s with
        line :=
          { s.line with
            assembling := false, gapAt := none, oldSpeed := s.line.speed, speed := sp, switchTo := none
            listenAt := none, state := .speedTrial, trialAt := some (s.tb.runCounter + 2048) } } := by
  rw [switchSpeed, h]
  rfl

theorem replySent_of_none_held {t : State} (switched : switchSpeed (replyGone s) = t) (h : t.line.held = none) :
    replySent s = t := by
  subst switched
  unfold replyGone at h
  simp only [replySent, State.modLine, h]
  rfl

theorem replySent_of_held {t : State} {r : Request} (switched : switchSpeed (replyGone s) = t)
    (h : t.line.held = some r) : replySent s = executeRequest r { t with line := { t.line with held := none } } := by
  subst switched
  unfold replyGone at h
  simp only [replySent, State.modLine, h]
  rfl

end

/-- Settles O34: the arming of a switch, and the last byte of a reply by whether a switch is armed and a request held. -/
theorem linkSpeedSwitchesWhenTheReplyIsSent : Obligations.LinkSpeedSwitchesWhenTheReplyIsSent := by
  refine ⟨fun code s l => ⟨fun unknown => exec_answered rfl l (congrArg some (setLinkSpeed_refused unknown _)), ?_⟩,
    fun s going busy => ⟨fun unarmed free => ?_, fun r unarmed held => ?_, fun sp armed free => ?_,
      fun sp r armed held => ?_⟩⟩
  · simp only [List.forall_mem_cons]
    refine ⟨?_, ?_, ?_, ?_, nofun⟩ <;> rintro rfl <;> exact exec_answered rfl l rfl
  · exact exec_replySent going busy (replySent_of_none_held (switchSpeed_of_unarmed (s := replyGone s) unarmed) free)
  · exact exec_replySent going busy (replySent_of_held (switchSpeed_of_unarmed (s := replyGone s) unarmed) held)
  · exact exec_replySent going busy (replySent_of_none_held (switchSpeed_of_armed (s := replyGone s) armed) free)
  · exact exec_replySent going busy (replySent_of_held (switchSpeed_of_armed (s := replyGone s) armed) held)

/-! ## The receiver -/

section
variable {s : State}

theorem frameReceived_of_match {kind : Byte} {payload : List Byte} (fits : payload.length ≤ 64) (s : State) :
    frameReceived kind payload (frameCrc kind payload) s =
      receive (decodeRequest kind payload) { s with line := { s.line with assembling := false, gapAt := none } } := by
  rw [frameReceived, if_neg (Nat.not_lt.mpr fits), if_pos rfl]
  rfl

theorem frameReceived_of_mismatch {kind crc : Byte} {payload : List Byte} (fits : payload.length ≤ 64)
    (wrong : crc ≠ frameCrc kind payload) (s : State) :
    frameReceived kind payload crc s =
      { s with
        line :=
          { s.line with
            assembling := false, gapAt := none, breakAt := none, crcErrors := min (s.line.crcErrors + 1) 65535
            alerts := s.line.alerts ||| 0x0200 } } := by
  rw [frameReceived, if_neg (Nat.not_lt.mpr fits), if_neg wrong.symm]
  rfl

theorem lengthError_eq (s : State) :
    lengthError s =
      { s with
        line :=
          { s.line with
            assembling := false, gapAt := none, breakAt := none
            lengthErrors := min (s.line.lengthErrors + 1) 65535, alerts := s.line.alerts ||| 0x0200 } } := rfl

theorem stopBitError_inside {startedAgo : Nat} (inside : inWakeWindow startedAgo s = true) (lowFor : Nat) :
    stopBitError startedAgo lowFor s =
      { s with line := { s.line with breakAt := some (s.tb.runCounter - lowFor + 64) } } := by
  rw [stopBitError, if_pos inside]
  rfl

theorem stopBitError_outside {startedAgo : Nat} (outside : inWakeWindow startedAgo s = false) (lowFor : Nat) :
    stopBitError startedAgo lowFor s =
      { s with
        line :=
          { s.line with
            assembling := false, gapAt := none, framingErrors := min (s.line.framingErrors + 1) 65535
            awaitHigh := true, breakAt := some (s.tb.runCounter - lowFor + 64)
            alerts := s.line.alerts ||| 0x0200 } } := by
  rw [stopBitError, if_neg (by simp [outside])]
  rfl

end

/-- Settles O35: the frame by its length and its CRC, and the two requests that the line port answers itself. -/
theorem completeFrameIsCheckedAndHandedOn : Obligations.CompleteFrameIsCheckedAndHandedOn := by
  intro kind payload crc s awake high frame
  have row : exec (.frameReceived kind payload crc) s = .next (endEvent s (frameReceived kind payload crc s)) :=
    exec_taken rfl (assemblyOpen_of awake high frame) rfl
  rw [row]
  refine ⟨fun long => ?_, fun fits good => ?_, fun fits wrong => by rw [frameReceived_of_mismatch fits wrong]⟩
  · rw [frameReceived, if_pos long, lengthError_eq]
  · subst good
    rw [frameReceived_of_match fits]
    have listening (free : s.line.executing = none) :
        Listening { s with line := { s.line with assembling := false, gapAt := none } } := ⟨awake, free⟩
    refine ⟨rfl, fun free unknown => ?_, fun free misfit => ?_⟩
    · rw [unknown, receive_of_listening _ (listening free)]
      rfl
    · rw [misfit, receive_of_listening _ (listening free)]
      rfl

/-- Settles O38: a byte outside and inside the wake window, the errors that abandon a frame, and LRX low and high. -/
theorem receiverBeginsFramesAndCountsErrors : Obligations.ReceiverBeginsFramesAndCountsErrors := by
  refine ⟨fun startedAgo s awake high => ⟨fun outside => ?_, fun inside => ?_⟩,
    fun s awake => ⟨fun len high frame long => ?_, fun at_ high frame registered due => ?_,
      fun low startedAgo lowFor => ?_⟩,
    fun s => ⟨fun low => ?_, fun high idle => ?_⟩⟩
  · have takes := receiverOpen_of awake high
    have window := not_inWakeWindow outside
    exact ⟨exec_taken rfl (by rw [sofDue, takes, window]; rfl) rfl,
      fun lowFor => exec_taken rfl takes (stopBitError_outside window lowFor)⟩
  · have takes := receiverOpen_of awake high
    have window := inWakeWindow_of inside
    exact ⟨exec_without_occasion rfl (by rw [sofDue, takes, window]; rfl),
      fun lowFor => exec_taken rfl takes (stopBitError_inside window lowFor)⟩
  · exact exec_taken rfl (by rw [assemblyOpen_of awake high frame, decide_eq_true long]; rfl) (lengthError_eq s)
  · exact exec_taken rfl
      (by rw [gapDue, assemblyOpen_of awake high frame, reached_of_registered registered due]; rfl) rfl
  · have closed := receiverOpen_of_awaitHigh low
    exact ⟨exec_without_occasion rfl closed, exec_without_occasion rfl (by rw [sofDue, closed]; rfl)⟩
  · exact exec_taken rfl (by simpa [lrxLow, Option.isSome_iff_ne_none] using low) rfl
  · exact exec_without_occasion rfl (by rw [lrxLow, high, idle]; rfl)

/-! ## Waking, listening and the trial -/

section
variable {s : State}

/-- R188: nothing is in hand at the listen expiry. -/
theorem listenExpiry_idle (executing : s.line.executing = none) (held : s.line.held = none) (reply : s.line.reply = none)
    (assembling : s.line.assembling = false) :
    listenExpiry s = { s with line := { s.line with state := .dormant, listenAt := none, wakeEdgeAt := none } } := by
  simp [listenExpiry, State.modLine, executing, held, reply, assembling]

theorem listenExpiry_busy
    (busy : ¬(s.line.executing = none ∧ s.line.held = none ∧ s.line.reply = none ∧ s.line.assembling = false)) :
    listenExpiry s = { s with line := { s.line with listenAt := some (s.tb.runCounter + 2048) } } := by
  simp only [← Option.isNone_iff_eq_none] at busy
  rw [listenExpiry, State.modLine, if_neg busy]
  rfl

end

/-- Settles O39: the break at its time and before it, the waking edge by the line's state, and the two expiries. -/
theorem lineStateFollowsItsEvents : Obligations.LineStateFollowsItsEvents := by
  refine ⟨fun s => ⟨fun ⟨t, registered, due⟩ => exec_taken rfl (reached_of_registered registered due) rfl,
      fun waits => exec_without_occasion rfl (not_reached waits),
      fun dormant => exec_taken rfl (decide_eq_true dormant) rfl,
      fun awake => exec_without_occasion rfl (decide_eq_false awake)⟩,
    fun at_ s due => ⟨fun listening registered => ?_, fun trial registered => ?_⟩⟩
  · have occasion : listenDue s = true := by
      rw [listenDue, decide_eq_true listening, reached_of_registered registered due]
      rfl
    exact ⟨fun executing held reply assembling => exec_taken rfl occasion (listenExpiry_idle executing held reply assembling),
      fun busy => exec_taken rfl occasion (listenExpiry_busy busy)⟩
  · exact exec_taken rfl (by rw [trialDue, decide_eq_true trial, reached_of_registered registered due]; rfl) rfl

end Sys2Proof.Machine
end

section
/-! PROOFS. The step with a command waiting (entries 1 and 41). -/

namespace Sys2Proof.Machine

/-- The command at the front of the queue leaves it before it runs: what it runs on holds only the commands behind it. -/
theorem step_front {c : Instr} {rest : List Instr} {s : State} (waiting : s.pending = c :: rest) :
    step s = exec c { s with pending := rest } := by
  rw [step, waiting]

/-- Settles O1: a command put at the front runs on the state it was put before. -/
theorem stepRunsTheCommandAtTheFront : Obligations.StepRunsTheCommandAtTheFront :=
  fun _ _ => step_front rfl

end Sys2Proof.Machine
end
